-- ==== Sys2Proof/Word.lean ====
section
/-! DEFINITION. The one word of the part's interface: the byte that crosses the host port (R158, R180). -/

namespace Sys2Proof

/-- A byte of the host port: an operand, a status or a result (R158, R180). -/
abbrev Byte := BitVec 8

end Sys2Proof
end

