-- ==== Sys2Proof/Syntax.lean ====
section
/-! DEFINITION. The commands of the block: one constructor of `Instr` per row of spec/opcode_table.json.
Operands of host commands are the raw bytes of R181, in its order, so that the checks of each command see every value. -/

namespace Sys2Proof

/-- The definition block of DEFINE-POINT and MODIFY-POINT (R182): six bytes and then the cells. -/
structure DefBlock where
  number     : Byte
  source     : Byte
  sequence   : Byte
  group      : Byte
  /-- bit 7 audible, bit 6 shelvable, bits 5 to 3 zero, bits 2 to 0 priority -/
  attrs      : Byte
  cellCount  : Byte
  cells      : List Byte
deriving DecidableEq, Repr

/-- The keys whose qualified press raises a key action (R83); TEST raises none (R85). -/
inductive ActionKey where
  | ack
  | silence
  | clear
deriving DecidableEq, Repr

/-- One of the two horn outputs (R145). -/
inductive HornId where
  | horn1
  | horn2
deriving DecidableEq, Repr

/-- A command to the part: a host command as it is taken (R160), an edge of a pin, an event of the timebase,
or an event that a tick brings (95). -/
inductive Instr where
  | readStatus
  | readChanges (maximum : Byte)
  | configureNotify (changes errors : Byte)
  | echo (value : Byte)
  | restart
  | resetDevice
  | definePoint (block : DefBlock)
  | modifyPoint (block : DefBlock)
  | retirePoint (point : Byte)
  | readPoint (point : Byte)
  | readDefined
  | assert (point value : Byte)
  | refreshAll
  | configureLease (interval : Byte)
  | acknowledge (scope : Byte)
  | silence (scope : Byte)
  | clear (scope : Byte)
  | shelve (point minutes : Byte)
  | unshelve (point : Byte)
  | readShelf
  | configureGroup (group enable release : Byte)
  | releaseGroup (group : Byte)
  | readGroup (group : Byte)
  | configureInput (line enable normalLevel filter chatterLimit : Byte)
  | readInputs
  | configureKeys (ack silence clear test : Byte)
  | configureDisplay (power commons quiet : Byte)
  | setOverride (test : Byte)
  | readCells (first count : Byte)
  | configureHorn (horn enable tone retrigger : Byte)
  | readOutputs
  | unknownCommand (code : Byte)
  | csFall
  | csRise
  | pinReset
  | rstnRelease
  /-- bit n of `lines` is the level of INn (1 HIGH); bits 0 to 3 of `keys` are those of ACK, SILENCE, CLEAR and TEST -/
  | tick (lines : BitVec 24) (keys : BitVec 4)
  | conditionBatch
  | keyAction (key : ActionKey)
  | chatterWindowExpiry
  | leaseExpiry
  | minuteExpiry
  | wrap
  | frameBoundary
  | warmUpEnd
  | gapEnd
  | settleEnd
  | sckRisingEdge (si : Bool)
  /-- the pin levels are sampled only when this period is a tick -/
  | refclkPeriod (lines : BitVec 24) (keys : BitVec 4)
  | halfWaveEnd (horn : HornId)
deriving DecidableEq, Repr

end Sys2Proof
end

