-- ==== Sys2Proof/Decode.lean ====
section
/-! DEFINITION. The command codes of the host port (R181), the bytes of each host command, and the reading of the bytes that
a transaction has shifted in (R159). The table's rows give no bits, so `decodeTableWord` answers none. -/

namespace Sys2Proof

/-- How many operand bytes a known code carries (R159, R181). -/
inductive Arity where
  | fixed (n : Nat)
  /-- six bytes and then as many cells as the sixth says, when that is 1 to 4 -/
  | block
deriving DecidableEq, Repr

/-- The command table of R181; `none` is an unknown code (R163). -/
def arity (code : Byte) : Option Arity :=
  match code.toNat with
  | 0x01 => some (.fixed 0)
  | 0x02 => some (.fixed 1)
  | 0x03 => some (.fixed 2)
  | 0x05 => some (.fixed 1)
  | 0x08 => some (.fixed 0)
  | 0x09 => some (.fixed 0)
  | 0x10 => some .block
  | 0x11 => some .block
  | 0x12 => some (.fixed 1)
  | 0x13 => some (.fixed 1)
  | 0x14 => some (.fixed 0)
  | 0x18 => some (.fixed 2)
  | 0x19 => some (.fixed 0)
  | 0x1A => some (.fixed 1)
  | 0x20 => some (.fixed 1)
  | 0x21 => some (.fixed 1)
  | 0x22 => some (.fixed 1)
  | 0x28 => some (.fixed 2)
  | 0x29 => some (.fixed 1)
  | 0x2A => some (.fixed 0)
  | 0x30 => some (.fixed 3)
  | 0x31 => some (.fixed 1)
  | 0x32 => some (.fixed 1)
  | 0x38 => some (.fixed 5)
  | 0x39 => some (.fixed 0)
  | 0x3A => some (.fixed 4)
  | 0x40 => some (.fixed 3)
  | 0x41 => some (.fixed 1)
  | 0x42 => some (.fixed 2)
  | 0x48 => some (.fixed 4)
  | 0x49 => some (.fixed 0)
  | _ => none

/-- How many cell bytes follow a cell-count byte: 1 to 4 as it says, none otherwise (R159). -/
def cellBytes (count : Byte) : Nat :=
  if 1 ≤ count.toNat ∧ count.toNat ≤ 4 then count.toNat else 0

/-- The bytes of a definition block, in the order of R182. -/
def blockBytes (b : DefBlock) : List Byte :=
  b.number :: b.source :: b.sequence :: b.group :: b.attrs :: b.cellCount :: b.cells

/-- The code and operand bytes by which the host sends a command (R181, R182); `none` for an event that is no host command. -/
def hostBytes : Instr → Option (List Byte)
  | .readStatus => some [0x01]
  | .readChanges m => some [0x02, m]
  | .configureNotify c e => some [0x03, c, e]
  | .echo v => some [0x05, v]
  | .restart => some [0x08]
  | .resetDevice => some [0x09]
  | .definePoint b => some (0x10 :: blockBytes b)
  | .modifyPoint b => some (0x11 :: blockBytes b)
  | .retirePoint p => some [0x12, p]
  | .readPoint p => some [0x13, p]
  | .readDefined => some [0x14]
  | .assert p v => some [0x18, p, v]
  | .refreshAll => some [0x19]
  | .configureLease i => some [0x1A, i]
  | .acknowledge sc => some [0x20, sc]
  | .silence sc => some [0x21, sc]
  | .clear sc => some [0x22, sc]
  | .shelve p m => some [0x28, p, m]
  | .unshelve p => some [0x29, p]
  | .readShelf => some [0x2A]
  | .configureGroup g e r => some [0x30, g, e, r]
  | .releaseGroup g => some [0x31, g]
  | .readGroup g => some [0x32, g]
  | .configureInput l e nl f c => some [0x38, l, e, nl, f, c]
  | .readInputs => some [0x39]
  | .configureKeys a si c t => some [0x3A, a, si, c, t]
  | .configureDisplay p c q => some [0x40, p, c, q]
  | .setOverride t => some [0x41, t]
  | .readCells f c => some [0x42, f, c]
  | .configureHorn h e n r => some [0x48, h, e, n, r]
  | .readOutputs => some [0x49]
  | .unknownCommand c => some [c]
  | .csFall => none
  | .csRise => none
  | .pinReset => none
  | .rstnRelease => none
  | .tick _ _ => none
  | .conditionBatch => none
  | .keyAction _ => none
  | .chatterWindowExpiry => none
  | .leaseExpiry => none
  | .minuteExpiry => none
  | .wrap => none
  | .frameBoundary => none
  | .warmUpEnd => none
  | .gapEnd => none
  | .settleEnd => none
  | .sckRisingEdge _ => none
  | .refclkPeriod _ _ => none
  | .halfWaveEnd _ => none

/-- What the bytes shifted in so far say (R159, R163). -/
inductive Frame where
  /-- more positions are needed before a command can be taken -/
  | incomplete
  /-- the last operand position is complete: this command is taken -/
  | command (i : Instr)
deriving DecidableEq, Repr

/-- The fixed-length command that a code and its operands spell (R181). -/
def fixedCommand (code : Nat) (ops : List Byte) : Option Instr :=
  match code, ops with
  | 0x01, [] => some .readStatus
  | 0x02, [m] => some (.readChanges m)
  | 0x03, [c, e] => some (.configureNotify c e)
  | 0x05, [v] => some (.echo v)
  | 0x08, [] => some .restart
  | 0x09, [] => some .resetDevice
  | 0x12, [p] => some (.retirePoint p)
  | 0x13, [p] => some (.readPoint p)
  | 0x14, [] => some .readDefined
  | 0x18, [p, v] => some (.assert p v)
  | 0x19, [] => some .refreshAll
  | 0x1A, [i] => some (.configureLease i)
  | 0x20, [sc] => some (.acknowledge sc)
  | 0x21, [sc] => some (.silence sc)
  | 0x22, [sc] => some (.clear sc)
  | 0x28, [p, m] => some (.shelve p m)
  | 0x29, [p] => some (.unshelve p)
  | 0x2A, [] => some .readShelf
  | 0x30, [g, e, r] => some (.configureGroup g e r)
  | 0x31, [g] => some (.releaseGroup g)
  | 0x32, [g] => some (.readGroup g)
  | 0x38, [l, e, nl, f, c] => some (.configureInput l e nl f c)
  | 0x39, [] => some .readInputs
  | 0x3A, [a, si, c, t] => some (.configureKeys a si c t)
  | 0x40, [p, c, q] => some (.configureDisplay p c q)
  | 0x41, [t] => some (.setOverride t)
  | 0x42, [f, c] => some (.readCells f c)
  | 0x48, [h, e, n, r] => some (.configureHorn h e n r)
  | 0x49, [] => some .readOutputs
  | _, _ => none

/-- The definition block that operand bytes spell, once all its positions are complete (R159, R182). -/
def blockOf : List Byte → Option DefBlock
  | n :: src :: sq :: g :: a :: cc :: cells =>
    if cells.length = cellBytes cc then some ⟨n, src, sq, g, a, cc, cells⟩ else none
  | _ => none

/-- The reading of the bytes a transaction has shifted in, code first: incomplete, or the command that the last of them
takes; a first byte outside the table is an unknown code (R159, R163). -/
def decodeFrame : List Byte → Frame
  | [] => .incomplete
  | code :: ops =>
    match arity code with
    | none => .command (.unknownCommand code)
    | some (.fixed _) =>
      match fixedCommand code.toNat ops with
      | some i => .command i
      | none => .incomplete
    | some .block =>
      match blockOf ops with
      | some b => .command (if code = 0x10 then .definePoint b else .modifyPoint b)
      | none => .incomplete

/-- The command that a word of the opcode table spells: the table gives no row any bits, so none. -/
def decodeTableWord (_nbits _w : Nat) : Option Instr := none

end Sys2Proof
end

