-- ==== Sys2Proof/Config.lean ====
section
/-! DEFINITION. The capacities and intervals that the spec fixes for every part (00, Capacities at a Glance and Time Units).
One value is free: the level of SO in a transaction that the port ignores. -/

namespace Sys2Proof.Config

/-- Point slots, numbered from 0 (R1). -/
def pointSlots : Nat := 64
/-- First-out groups, numbered from 1 (R47). -/
def groupCount : Nat := 8
/-- Field lines, numbered from 0 (R65). -/
def lineCount : Nat := 24
/-- Display cells, numbered from 0 (R117). -/
def cellCount : Nat := 160
/-- Segment lines; cell = common * 40 + segment (R117). -/
def segmentCount : Nat := 40
/-- Shelf entries (R101). -/
def shelfEntries : Nat := 16
/-- The largest number of minutes of one shelving (R101, R103). -/
def maxMinutes : Nat := 240
/-- The largest number of entries one READ-CHANGES reports (R172). -/
def maxRead : Nat := 16
/-- The largest number of cells one READ-CELLS reports (R135). -/
def maxCells : Nat := 32
/-- REFCLK periods in one tick (R190). -/
def prescale : Nat := 32
/-- Values of the cycle counter (R192). -/
def cycleLength : Nat := 2048
/-- Ticks between frame boundaries (R193). -/
def frameLength : Nat := 16
/-- Ticks in a chatter window (R194). -/
def chatterWindow : Nat := 8192
/-- Ticks of one unit of the lease interval (R93). -/
def leaseUnit : Nat := 128
/-- Ticks in a minute (R108). -/
def minuteLength : Nat := 61440
/-- Ticks of a settle (R197). -/
def settleLength : Nat := 32
/-- Ticks of the display warm-up (R129). -/
def warmUpLength : Nat := 64
/-- Consecutive disagreeing samples that change a key's filtered state (R82). -/
def keyFilter : Nat := 20
/-- Ticks of the CMN re-trigger gap (R152). -/
def gapLength : Nat := 512
/-- The age at which a HOST point is stale (R88). -/
def staleAge : Nat := 3
/-- The value at which a transition count is held (R70). -/
def maxTransitions : Nat := 15

/-- The level that SO carries in a transaction that the port ignores because RSTN rose while CS was low (R178): the spec
states none. DESIGN CHOICE (log 18): a free value. -/
opaque ignoredSo : Bool

end Sys2Proof.Config
end

