-- ==== Sys2Proof/Machine/State.lean ====
section
/-! DEFINITION. Everything the spec gives the part to hold, as plain data, and its value after reset (R198). INVENTORY.md
lists each field with its rule. A count that stands at the end of its range is an expiry that is due and not yet
taken (log 9). -/

namespace Sys2Proof.Machine

/-- NORMAL or ABNORMAL: a condition, an asserted value, a filtered or a qualified state (R4, R65, R67). -/
inductive Condition where
  | normal
  | abnormal
deriving DecidableEq, Repr

/-- Where a point's condition comes from (R2). -/
inductive Source where
  | line (n : Nat)
  | host
deriving DecidableEq, Repr

/-- The sequence types (R2). -/
inductive SequenceType where
  | auto
  | lock
  | ringback
deriving DecidableEq, Repr

/-- The seven annunciation states (R23); RETURN is `returned`. -/
inductive PointState where
  | normal
  | alert
  | acked
  | cleared
  | returned
  | hold
  | shelved
deriving DecidableEq, Repr

/-- The definition of a point (R2). -/
structure Definition where
  number     : Nat
  source     : Source
  sequence   : SequenceType
  group      : Nat
  priority   : Nat
  audible    : Bool
  shelvable  : Bool
  cells      : List Nat
deriving DecidableEq, Repr

/-- The runtime of a point (R4). -/
structure Runtime where
  state     : PointState
  condition : Condition
  asserted  : Condition
  age       : Nat
  stale     : Bool
  silenced  : Bool
deriving DecidableEq, Repr

/-- A point record: what a Defined slot holds (R1). -/
structure Point where
  defn : Definition
  run  : Runtime
deriving DecidableEq, Repr

/-- How a group releases (R47). -/
inductive Release where
  | auto
  | manual
deriving DecidableEq, Repr

/-- The state of a group; CAPTURED carries the captured point, which is present only there (R47, R48). -/
inductive GroupState where
  | disabled
  | armed
  | captured (point : Nat)
deriving DecidableEq, Repr

/-- A group record (R47). -/
structure Group where
  number  : Nat
  enabled : Bool
  release : Release
  state   : GroupState
deriving DecidableEq, Repr

/-- A pin level (R65). -/
inductive Level where
  | low
  | high
deriving DecidableEq, Repr

/-- The mode of a field line (R65). -/
inductive LineMode where
  | disabled
  | tracking
  | chatter
deriving DecidableEq, Repr

/-- A line record (R65), with the qualified state last handed to the point table (R73). -/
structure Line where
  number       : Nat
  mode         : LineMode
  normalLevel  : Level
  filter       : Nat
  chatterLimit : Nat
  raw          : Level
  filtered     : Condition
  runCount     : Nat
  transitions  : Nat
  /-- transition in window -/
  flipped      : Bool
  handed       : Condition
deriving DecidableEq, Repr

/-- The filtered state of a key (R81). -/
inductive KeyState where
  | released
  | pressed
deriving DecidableEq, Repr

/-- A key record (R81); `due` is a key action that a qualified press has raised and that is not yet taken (R83). -/
structure KeyRecord where
  enable   : Bool
  filtered : KeyState
  runCount : Nat
  due      : Bool
deriving DecidableEq, Repr

/-- The four operator keys (R81). -/
structure Keys where
  ack     : KeyRecord
  silence : KeyRecord
  clear   : KeyRecord
  test    : KeyRecord
deriving DecidableEq, Repr

/-- A shelf entry (R101). -/
structure ShelfEntry where
  point     : Nat
  remaining : Nat
deriving DecidableEq, Repr

/-- The drive state; WARMING carries its warm-up count (R128, R129). -/
inductive Drive where
  | off
  | warming (count : Nat)
  | active
deriving DecidableEq, Repr

/-- What the display unit holds (R137); the image lists the 160 cells, lit or dark (R132). -/
structure Display where
  drive          : Drive
  commons        : Nat
  commonsPending : Nat
  quiet          : Bool
  commandTest    : Bool
  image          : Option (List Bool)
deriving DecidableEq, Repr

/-- A horn's square wave: the half it is in, and the REFCLK periods of that half that have passed (R145). A horn that does
not sound holds the wave at rest, at the start of a high half. -/
structure Wave where
  high    : Bool
  elapsed : Nat
deriving DecidableEq, Repr

/-- A horn (R145 to R147). -/
structure Horn where
  enable      : Bool
  tone        : Nat
  tonePending : Option Nat
  wave        : Wave
deriving DecidableEq, Repr

/-- What the output unit holds (R155); `gap` is the gap count while a gap is active (R152). -/
structure Output where
  horn1     : Horn
  horn2     : Horn
  retrigger : Bool
  gap       : Option Nat
deriving DecidableEq, Repr

/-- A change list entry (R170). -/
structure ChangeEntry where
  point    : Nat
  inFlight : Bool
deriving DecidableEq, Repr

/-- A sticky flag and its reported mark (R167, R168). -/
structure StickyFlag where
  isSet    : Bool
  reported : Bool
deriving DecidableEq, Repr

/-- The four sticky flags (R167). -/
structure StickyFlags where
  truncated   : StickyFlag
  unknown     : StickyFlag
  staleSeen   : StickyFlag
  chatterSeen : StickyFlag
deriving DecidableEq, Repr

/-- The notification enables (R176). -/
structure Notify where
  changes : Bool
  errors  : Bool
deriving DecidableEq, Repr

/-- The transaction in progress (R158): the code and operand bytes received, the SI bits of the current position, its SCK
edges, the positions complete, and, once the command is taken, the status byte and the result bytes. -/
structure Transaction where
  received  : List Byte
  shift     : Byte
  edges     : Nat
  positions : Nat
  reply     : Option (List Byte)
deriving DecidableEq, Repr

/-- A transaction that has just begun holds nothing (R158). -/
def Transaction.fresh : Transaction :=
  { received := [], shift := 0, edges := 0, positions := 0, reply := none }

/-- What the port holds of a transaction: none, one that it ignores until CS rises (R178), or one in progress. -/
inductive Port where
  | idle
  | ignoring
  | active (t : Transaction)
deriving DecidableEq, Repr

/-- The device state; SETTLING carries its settle count (R197). -/
inductive Device where
  | settling (count : Nat)
  | ready
deriving DecidableEq, Repr

/-- What the timebase holds (R190 to R197, R93, R108). `wrapDue` and `frameDue` are the wrap and the frame boundary of this
tick, not yet taken; `settleAhead` says that the settle end was taken before the sampling of its tick (R74, log 10), and
`frameAhead` that the frame boundary of the next tick was taken before its sampling (R134, log 22). -/
structure Timebase where
  prescaler     : Nat
  cycle         : Nat
  chatterCount  : Nat
  leaseInterval : Nat
  leaseCount    : Nat
  minuteCount   : Nat
  device        : Device
  wrapDue       : Bool
  frameDue      : Bool
  settleAhead   : Bool
  frameAhead    : Bool
deriving DecidableEq, Repr

/-- The whole part. `rstn` and `cs` are true while the pin is high; `pending` is the queue of commands that wait. -/
structure State where
  rstn    : Bool
  cs      : Bool
  points  : List Point
  groups  : List Group
  lines   : List Line
  keys    : Keys
  shelf   : List ShelfEntry
  display : Display
  output  : Output
  changes : List ChangeEntry
  flags   : StickyFlags
  notify  : Notify
  port    : Port
  time    : Timebase
  pending : List Instr
deriving DecidableEq, Repr

/-- The spec gives the part no fault: nothing raises one. -/
inductive Fault
deriving DecidableEq, Repr

/-- Why a command is turned away without a next state. -/
inductive Refusal where
  /-- Raised by an arm of `exec` whose command has no meaning yet; none is left. Safe: the model stops. -/
  | notModelled (mnemonic : String)
  /-- Raised by a command term that is no command of the part: a definition block without the cell bytes of R159, or a code
  of the command table given as unknown (R163). Safe: the model stops, and the part can receive no such command. -/
  | illFormed
deriving DecidableEq, Repr

/-- A group record after reset (R63). -/
def Group.initial (n : Nat) : Group := { number := n, enabled := false, release := .auto, state := .disabled }

/-- A line record after reset (R66, R73); the raw level is LOW (log 7). -/
def Line.initial (n : Nat) : Line :=
  { number := n, mode := .disabled, normalLevel := .low, filter := 8, chatterLimit := 0, raw := .low, filtered := .normal,
    runCount := 0, transitions := 0, flipped := false, handed := .normal }

/-- A key record after reset (R81). -/
def KeyRecord.initial : KeyRecord := { enable := true, filtered := .released, runCount := 0, due := false }

/-- The wave of a horn that does not sound (R145). -/
def Wave.rest : Wave := { high := true, elapsed := 0 }

/-- A horn after reset (R155). -/
def Horn.initial : Horn := { enable := false, tone := 31, tonePending := none, wave := .rest }

/-- A sticky flag that is clear (R178). -/
def StickyFlag.clear : StickyFlag := { isSet := false, reported := false }

/-- The four sticky flags clear (R178). -/
def StickyFlags.clear : StickyFlags := { truncated := .clear, unknown := .clear, staleSeen := .clear, chatterSeen := .clear }

/-- The part right after reset: every block at the values of R198, RSTN just released (R199), CS high (log 6). -/
def State.reset : State :=
  { rstn := true
    cs := true
    points := []
    groups := (List.range Config.groupCount).map fun n => Group.initial (n + 1)
    lines := (List.range Config.lineCount).map Line.initial
    keys := { ack := .initial, silence := .initial, clear := .initial, test := .initial }
    shelf := []
    display := { drive := .off, commons := 4, commonsPending := 4, quiet := false, commandTest := false, image := none }
    output := { horn1 := .initial, horn2 := .initial, retrigger := true, gap := none }
    changes := []
    flags := .clear
    notify := { changes := false, errors := false }
    port := .idle
    time :=
      { prescaler := 0, cycle := 0, chatterCount := 0, leaseInterval := 0, leaseCount := 0, minuteCount := 0,
        device := .settling 0, wrapDue := false, frameDue := false, settleAhead := false, frameAhead := false }
    pending := [] }

end Sys2Proof.Machine
end

