-- ==== Sys2Proof/Machine/Flags.lean ====
section
/-! DEFINITION. The quantities that the spec derives and does not store (00, Derived quantities), the sticky flags, and the
packing of flags into result bytes (R180). -/

namespace Sys2Proof.Machine

/-- The slot a record occupies (R1, R2). -/
abbrev Point.number (p : Point) : Nat := p.defn.number
/-- The group field of a point (R2). -/
abbrev Point.group (p : Point) : Nat := p.defn.group
/-- The annunciation state of a point (R23). -/
abbrev Point.state (p : Point) : PointState := p.run.state

/-- The record of a Defined slot; `none` for a Vacant one (R1). -/
def pointAt (s : State) (n : Nat) : Option Point := s.points.find? fun p => p.number == n

/-- A group record by its number (R47). -/
def groupAt (s : State) (g : Nat) : Group := (s.groups.find? fun G => G.number == g).getD (Group.initial g)

/-- A line record by its number (R65). -/
def lineAt (s : State) (n : Nat) : Line := (s.lines.find? fun L => L.number == n).getD (Line.initial n)

/-- The first-out mark: the point is the captured point of the group its group field names (R48). -/
def firstOut (groups : List Group) (p : Point) : Bool :=
  p.group != 0 && groups.any fun G => G.number == p.group && G.state == .captured p.number

/-- The qualified state of a line (R67). -/
def Line.qualified (L : Line) : Condition :=
  match L.mode with
  | .disabled => .normal
  | .tracking => L.filtered
  | .chatter => .abnormal

/-- The qualified state of line `n` as it stands (R67). -/
def qualifiedAt (s : State) (n : Nat) : Condition := (lineAt s n).qualified

/-- The state of line `n` as last delivered to the point table (R6, R73). It differs from the qualified state only between a
change and the taking of its condition batch. -/
def handedAt (s : State) (n : Nat) : Condition := (lineAt s n).handed

/-- The part is READY (R197). -/
def isReady (s : State) : Bool := s.time.device == .ready

/-- A state that is an unacknowledged alarm: ALERT or CLEARED (R150). -/
def PointState.unacknowledged : PointState → Bool
  | .alert => true
  | .cleared => true
  | .normal => false
  | .acked => false
  | .returned => false
  | .hold => false
  | .shelved => false

/-- A state that blocks no AUTO release: NORMAL or SHELVED (R54). -/
def PointState.resting : PointState → Bool
  | .normal => true
  | .shelved => true
  | .alert => false
  | .acked => false
  | .cleared => false
  | .returned => false
  | .hold => false

/-- alarm-present: some defined point is in ALERT or CLEARED (R150). -/
def alarmPresent (s : State) : Bool := s.points.any fun p => p.state.unacknowledged

/-- The alarm count of READ-STATUS (R168). -/
def alarmCount (s : State) : Nat := s.points.countP fun p => p.state.unacknowledged

/-- CMN: asserted while alarm-present is true and no gap is active (R150). -/
def cmn (s : State) : Bool := alarmPresent s && s.output.gap.isNone

/-- stale-present: some defined HOST point is stale (R96). -/
def stalePresent (s : State) : Bool := s.points.any fun p => p.defn.source == .host && p.run.stale

/-- chatter-present: some line is in CHATTER (R71). -/
def chatterPresent (s : State) : Bool := s.lines.any fun L => L.mode == .chatter

/-- At least one sticky flag is set (R177). -/
def anyFlag (f : StickyFlags) : Bool := f.truncated.isSet || f.unknown.isSet || f.staleSeen.isSet || f.chatterSeen.isSet

/-- The level of IRQ (R177). -/
def irq (s : State) : Bool := (s.notify.changes && !s.changes.isEmpty) || (s.notify.errors && anyFlag s.flags)

/-- Setting a sticky flag: it loses its reported mark when it is set (R167, R169). -/
def StickyFlag.raised : StickyFlag := { isSet := true, reported := false }

/-- A flag that READ-STATUS reports is marked, when it is set (R168). -/
def StickyFlag.marked (f : StickyFlag) : StickyFlag := { f with reported := f.isSet }

/-- The CS rise of a READ-STATUS clears a flag that still holds its mark when position 3 is complete, and discards the mark in
both cases (R169). -/
def StickyFlag.acknowledged (read : Bool) (f : StickyFlag) : StickyFlag :=
  { isSet := f.isSet && !(read && f.reported), reported := false }

/-- One change applied to each of the four sticky flags. -/
def StickyFlags.each (f : StickyFlag → StickyFlag) (fs : StickyFlags) : StickyFlags :=
  { truncated := f fs.truncated, unknown := f fs.unknown, staleSeen := f fs.staleSeen, chatterSeen := f fs.chatterSeen }

/-- The key test claim: the TEST key PRESSED and enabled while the part is READY (R85). -/
def keyTest (s : State) : Bool := s.keys.test.filtered == .pressed && s.keys.test.enable && isReady s

/-- Test is active while either claim is active (R125). -/
def testActive (s : State) : Bool := s.display.commandTest || keyTest s

/-- The horn of an output unit by its name. -/
def Output.horn (o : Output) : HornId → Horn
  | .horn1 => o.horn1
  | .horn2 => o.horn2

/-- A point that meets the condition of a horn's request (R141). -/
def requesting (h : HornId) (p : Point) : Bool :=
  p.defn.audible && !p.run.silenced &&
    match h with
    | .horn1 => p.state.unacknowledged
    | .horn2 => p.state == .returned

/-- The request of a horn (R141). -/
def hornRequest (s : State) (h : HornId) : Bool := s.points.any (requesting h)

/-- The governing priority of a horn: the lowest number among its requesting points, 0 when there is none (R143). -/
def governing (s : State) (h : HornId) : Nat := (((s.points.filter (requesting h)).map fun p => p.defn.priority).min?).getD 0

/-- The counter value lies in an on-phase of the priority's pattern (R144). -/
def onPhase (priority c : Nat) : Bool :=
  match priority with
  | 1 => true
  | 2 => c % 1024 < 512
  | 3 => c % 1024 < 256
  | 4 => c < 256
  | _ => false

/-- A horn sounds while it is enabled, requested, and in an on-phase of its governing priority (R145). -/
def sounding (s : State) (h : HornId) : Bool :=
  (s.output.horn h).enable && hornRequest s h && onPhase (governing s h) s.time.cycle

/-- The level of a horn output: the square wave while it sounds, low otherwise (R145). -/
def hornOutput (s : State) (h : HornId) : Bool := sounding s h && (s.output.horn h).wave.high

/-- A chatter-window expiry is due (R194). -/
def chatterDue (s : State) : Bool := Config.chatterWindow ≤ s.time.chatterCount

/-- A lease expiry is due: the interval is not 0 and the count has reached interval * 128 (R93). -/
def leaseDue (s : State) : Bool := s.time.leaseInterval != 0 && s.time.leaseInterval * Config.leaseUnit ≤ s.time.leaseCount

/-- A minute expiry is due (R108). -/
def minuteDue (s : State) : Bool := Config.minuteLength ≤ s.time.minuteCount

/-- The settle end is due: its tick has brought the settle count to 32 (R197). -/
def settleDue (s : State) : Bool :=
  match s.time.device with
  | .ready => false
  | .settling n => Config.settleLength ≤ n

/-- The next REFCLK period is a tick (R190). -/
def tickIsNext (s : State) : Bool := s.time.prescaler + 1 == Config.prescale

/-- The next value of the cycle counter (R192). -/
def nextCycle (c : Nat) : Nat := if c + 1 = Config.cycleLength then 0 else c + 1

/-- A tick that brings the cycle counter from `c` to a multiple of 16 is a frame boundary's (R193). -/
def framesNext (c : Nat) : Bool := nextCycle c % Config.frameLength == 0

/-- The next REFCLK period is the tick of a frame boundary, so that the boundary may be taken ahead of that tick's sampling and
of the test claim that the sampling changes (R134, log 22). -/
def frameCanLead (s : State) : Bool := tickIsNext s && framesNext s.time.cycle && !s.time.frameAhead

/-- The next REFCLK period is the tick of the settle end, so that the settle end may be taken ahead of that tick's
sampling (R74, log 10). -/
def settleCanLead (s : State) : Bool :=
  s.time.device == .settling (Config.settleLength - 1) && tickIsNext s

/-- The warm-up end is due (R129). -/
def warmUpDue (s : State) : Bool :=
  match s.display.drive with
  | .warming n => Config.warmUpLength ≤ n
  | .off => false
  | .active => false

/-- The gap end is due (R152). -/
def gapDue (s : State) : Bool := s.output.gap.any fun n => Config.gapLength ≤ n

/-- The half in progress of a horn that sounds has lasted N + 1 REFCLK periods (R145, R146). -/
def halfWaveDue (s : State) (h : HornId) : Bool := sounding s h && (s.output.horn h).tone + 1 ≤ (s.output.horn h).wave.elapsed

/-- The value of a list of bits, the first the least significant. -/
def packBits : List Bool → Nat
  | [] => 0
  | b :: bs => b.toNat + 2 * packBits bs

/-- The byte whose bit k is the k-th of the list; bits without a meaning read 0 (R180). -/
def byteOfBits (bs : List Bool) : Byte := BitVec.ofNat 8 (packBits bs)

/-- A number as one result byte. -/
def byteOf (n : Nat) : Byte := BitVec.ofNat 8 n

/-- Flags of numbered items in bytes of eight, item 8 * (k - 1) + j in bit j of byte k (R186, R187). -/
def flagBytes (bytes : Nat) (f : Nat → Bool) : List Byte :=
  (List.range bytes).map fun k => byteOfBits ((List.range 8).map fun j => f (8 * k + j))

end Sys2Proof.Machine
end

