-- ==== Sys2Proof/Machine/Operands.lean ====
section
/-! DEFINITION. The operand values of host commands (R180, R182, R35): each reader answers none for a value that is out of
range. -/

namespace Sys2Proof.Machine

/-- The status byte of a taken command (R165). -/
inductive Status where
  | ok
  | busy
  | unknownCommand
  | badArgument
  | vacant
  | occupied
  | wrongState
  | wrongSource
  | notShelvable
  | shelfFull
deriving DecidableEq, Repr

/-- The code of a status (R165). -/
def Status.code : Status → Byte
  | .ok => 0x00
  | .busy => 0x01
  | .unknownCommand => 0x02
  | .badArgument => 0x03
  | .vacant => 0x04
  | .occupied => 0x05
  | .wrongState => 0x06
  | .wrongSource => 0x07
  | .notShelvable => 0x08
  | .shelfFull => 0x09

/-- A two-valued operand: 0x00 no or off, 0x01 yes or on (R180). -/
def twoValued (b : Byte) : Option Bool :=
  if b = 0x00 then some false else if b = 0x01 then some true else none

/-- A number within a range. -/
def numberIn (low high : Nat) (b : Byte) : Option Nat :=
  if low ≤ b.toNat ∧ b.toNat ≤ high then some b.toNat else none

/-- A point number, 0x00 to 0x3F (R180). -/
def pointOf (b : Byte) : Option Nat := numberIn 0 63 b

/-- A group number, 0x01 to 0x08 (R180). -/
def groupOf (b : Byte) : Option Nat := numberIn 1 8 b

/-- An ASSERT value: 0x00 NORMAL, 0x01 ABNORMAL (R180). -/
def conditionOf (b : Byte) : Option Condition := (twoValued b).map fun v => if v then .abnormal else .normal

/-- A release operand: 0x00 AUTO, 0x01 MANUAL (R180). -/
def releaseOf (b : Byte) : Option Release := (twoValued b).map fun v => if v then .manual else .auto

/-- A normal level: 0x00 LOW, 0x01 HIGH (R180). -/
def levelOf (b : Byte) : Option Level := (twoValued b).map fun v => if v then .high else .low

/-- A chatter limit: 0, or 2 to 15 (R76). -/
def chatterLimitOf (b : Byte) : Option Nat := if b = 0 then some 0 else numberIn 2 15 b

/-- A horn operand: 0x01 HORN1, 0x02 HORN2 (R180). -/
def hornOf (b : Byte) : Option HornId :=
  if b = 0x01 then some .horn1 else if b = 0x02 then some .horn2 else none

/-- A source byte: 0x00 to 0x17 a line, 0x80 HOST (R182). -/
def sourceOf (b : Byte) : Option Source :=
  if b.toNat ≤ 0x17 then some (.line b.toNat) else if b = 0x80 then some .host else none

/-- A sequence byte (R182). -/
def sequenceOf (b : Byte) : Option SequenceType :=
  if b = 0x00 then some .auto else if b = 0x01 then some .lock else if b = 0x02 then some .ringback else none

/-- The fields of an attributes byte: audible, shelvable and priority; bits 5 to 3 must be zero (R182). -/
def attributesOf (b : Byte) : Option (Bool × Bool × Nat) :=
  let priority := b.toNat % 8
  if b.toNat / 8 % 8 = 0 ∧ 1 ≤ priority ∧ priority ≤ 4 then some (b.getLsbD 7, b.getLsbD 6, priority) else none

/-- A cell list: 1 to 4 numbers, each 0 to 159, none repeated (R3, R10). -/
def cellsOf (count : Byte) (cells : List Byte) : Option (List Nat) :=
  let ns := cells.map BitVec.toNat
  if 1 ≤ count.toNat ∧ count.toNat ≤ 4 ∧ (∀ n ∈ ns, n < Config.cellCount) ∧ ns.Nodup then some ns else none

/-- The definition that a block writes for point `n`; none when any field but the number is out of range (R10 step 3, R182). -/
def definitionOf (n : Nat) (b : DefBlock) : Option Definition := do
  let source ← sourceOf b.source
  let sequence ← sequenceOf b.sequence
  let group ← numberIn 0 8 b.group
  let (audible, shelvable, priority) ← attributesOf b.attrs
  let cells ← cellsOf b.cellCount b.cells
  return { number := n, source, sequence, group, priority, audible, shelvable, cells }

/-- What the scope operand of ACKNOWLEDGE, SILENCE and CLEAR covers (R35). -/
inductive Scope where
  | point (n : Nat)
  | group (g : Nat)
  | all
deriving DecidableEq, Repr

/-- The scope operand (R35). -/
def scopeOf (b : Byte) : Option Scope :=
  if b.toNat ≤ 0x3F then some (.point b.toNat)
  else if 0x81 ≤ b.toNat ∧ b.toNat ≤ 0x88 then some (.group (b.toNat - 0x80))
  else if b = 0xFF then some .all
  else none

/-- The points that a scope covers (R35). -/
def Scope.covers : Scope → Point → Bool
  | .point n, p => p.defn.number == n
  | .group g, p => p.defn.group == g
  | .all, _ => true

/-- The attributes byte of a definition (R182). -/
def attributesByte (d : Definition) : Byte :=
  BitVec.ofNat 8 (d.priority + 64 * d.shelvable.toNat + 128 * d.audible.toNat)

/-- The source byte of a definition (R182). -/
def sourceByte : Source → Byte
  | .line n => BitVec.ofNat 8 n
  | .host => 0x80

/-- The sequence byte of a definition (R182). -/
def sequenceByte : SequenceType → Byte
  | .auto => 0x00
  | .lock => 0x01
  | .ringback => 0x02

/-- The definition bytes of a READ-POINT result (R183). -/
def definitionBytes (d : Definition) : List Byte :=
  [BitVec.ofNat 8 d.number, sourceByte d.source, sequenceByte d.sequence, BitVec.ofNat 8 d.group, attributesByte d,
    BitVec.ofNat 8 d.cells.length] ++ d.cells.map fun n => BitVec.ofNat 8 n

/-- The code of an annunciation state (R23). -/
def PointState.code : PointState → Nat
  | .normal => 0
  | .alert => 1
  | .acked => 2
  | .cleared => 3
  | .returned => 4
  | .hold => 5
  | .shelved => 6

end Sys2Proof.Machine
end

