-- ==== Sys2Proof/Machine/Ops.lean ====
section
/-! DEFINITION. The operations that the commands share: replacing one part of State, the sequence logic of one point, the
one event of the point table with its capture offers, releases, posts and re-trigger events (R5), the horns' waves, and the
taking of a host command (R160). -/

namespace Sys2Proof.Machine

/-! ### Replacing one part of the state -/

def State.withPoints (s : State) (x : List Point) : State := { s with points := x }
def State.withGroups (s : State) (x : List Group) : State := { s with groups := x }
def State.withLines (s : State) (x : List Line) : State := { s with lines := x }
def State.withKeys (s : State) (x : Keys) : State := { s with keys := x }
def State.withShelf (s : State) (x : List ShelfEntry) : State := { s with shelf := x }
def State.withDisplay (s : State) (x : Display) : State := { s with display := x }
def State.withOutput (s : State) (x : Output) : State := { s with output := x }
def State.withChanges (s : State) (x : List ChangeEntry) : State := { s with changes := x }
def State.withFlags (s : State) (x : StickyFlags) : State := { s with flags := x }
def State.withNotify (s : State) (x : Notify) : State := { s with notify := x }
def State.withPort (s : State) (x : Port) : State := { s with port := x }
def State.withTime (s : State) (x : Timebase) : State := { s with time := x }
def State.withPins (s : State) (rstn cs : Bool) : State := { s with rstn := rstn, cs := cs }

/-! ### The sequence logic of one point (R25, R28, R30) -/

/-- The six arrivals (R24). -/
inductive Arrival where
  | abn
  | nrm
  | ack
  | clr
  | shelve
  | unshelve
deriving DecidableEq, Repr

/-- Where an alarm goes that is both acknowledged and back to normal (R25). -/
def restState : SequenceType → PointState
  | .auto => .normal
  | .lock => .hold
  | .ringback => .returned

/-- The state an arrival leads to; `none` where it changes nothing (R24, R25, R28, R30). -/
def respond (sq : SequenceType) (condition : Condition) : PointState → Arrival → Option PointState
  | .normal, .abn => some .alert
  | .alert, .ack => some .acked
  | .alert, .nrm => some .cleared
  | .acked, .nrm => some (restState sq)
  | .cleared, .ack => some (restState sq)
  | .cleared, .abn => some .alert
  | .hold, .clr => if sq = .lock then some .normal else none
  | .hold, .abn => if sq = .lock then some .alert else none
  | .returned, .clr => if sq = .ringback then some .normal else none
  | .returned, .abn => if sq = .ringback then some .alert else none
  | .shelved, .unshelve => some (if condition = .abnormal then .alert else .normal)
  | .shelved, _ => none
  | _, .shelve => some .shelved
  | _, _ => none

/-- What one event does to one point: the record after it, whether its state changed, whether it entered ALERT, and whether
it is posted for a change of its state or its stale flag (R31 to R33). -/
structure Moved where
  point   : Point
  changed : Bool
  alert   : Bool
  post    : Bool
deriving DecidableEq, Repr

/-- A point that the event leaves as it is, or changes without a state change or a post. -/
def Moved.still (p : Point) : Moved := { point := p, changed := false, alert := false, post := false }

/-- One arrival applied to a point: a state change clears the silenced flag and is posted; an entry into ALERT raises an
offer and a re-trigger event (R31, R32). -/
def arrive (a : Arrival) (p : Point) : Moved :=
  match respond p.defn.sequence p.run.condition p.run.state a with
  | none => .still p
  | some st =>
    { point := { p with run := { p.run with state := st, silenced := false } }
      changed := true
      alert := st == .alert
      post := true }

/-- The arrival that a condition brings when it changes (R8). -/
def Condition.arrival : Condition → Arrival
  | .normal => .nrm
  | .abnormal => .abn

/-- A delivered or re-derived condition: ABN or NRM when it differs from the one held, nothing otherwise (R8). -/
def takeCondition (c : Condition) (p : Point) : Moved :=
  if p.run.condition = c then .still p
  else arrive c.arrival { p with run := { p.run with condition := c } }

/-- The condition of a HOST point: ABNORMAL while stale, the asserted value otherwise (R7). -/
def Runtime.hostCondition (r : Runtime) : Condition := if r.stale then .abnormal else r.asserted

/-- New ageing fields of a HOST point: the condition is re-derived once, and a change of the stale flag is posted (R89). -/
def takeAgeing (asserted : Condition) (age : Nat) (stale : Bool) (p : Point) : Moved :=
  let q : Point := { p with run := { p.run with asserted := asserted, age := age, stale := stale } }
  let m := takeCondition q.run.hostCondition q
  { m with post := m.post || p.run.stale != stale }

/-- A refresh: age 0, stale clear, the asserted value kept; LINE points are left as they were (R88, R92). -/
def refresh (p : Point) : Moved :=
  if p.defn.source = .host then takeAgeing p.run.asserted 0 false p else .still p

/-- The runtime a point is defined with, and has after RESTART (R4, R22). -/
def Runtime.initial : Runtime :=
  { state := .normal, condition := .normal, asserted := .normal, age := 0, stale := false, silenced := false }

/-! ### Capture and release (R50 to R56) -/

/-- The capture offers of an event that name group `g` (R49). -/
def offers (ms : List Moved) (g : Nat) : List Nat :=
  (ms.filter fun m => m.alert && m.point.group == g).map fun m => m.point.number

/-- A member of group `g` changed state in the event (R31). -/
def memberChanged (ms : List Moved) (g : Nat) : Bool := ms.any fun m => m.changed && m.point.group == g

/-- Every member of group `g` is NORMAL or SHELVED after the event's arrivals (R54). -/
def membersResting (ms : List Moved) (g : Nat) : Bool := ms.all fun m => m.point.group != g || m.point.state.resting

/-- No member of group `g` is in ALERT or CLEARED after the event's arrivals (R55). -/
def noUnacknowledged (ms : List Moved) (g : Nat) : Bool :=
  ms.all fun m => m.point.group != g || !m.point.state.unacknowledged

/-- What an event asks of the group unit besides its offers: a release without condition (R56, R57, R59), or the release
that CLEAR asks for (R55). -/
structure Asked where
  released : Group → Bool
  cleared  : Group → Bool

/-- An event that asks nothing of the group unit. -/
def Asked.nothing : Asked := { released := fun _ => false, cleared := fun _ => false }

/-- The group is released by the event (R53 to R56). -/
def released (ms : List Moved) (ask : Asked) (G : Group) : Bool :=
  ask.released G || (ask.cleared G && noUnacknowledged ms G.number) ||
    (G.release == .auto && memberChanged ms G.number && membersResting ms G.number)

/-- The group unit's decision for one group: an ARMED group captures the lowest offer, a CAPTURED group may be released, a
DISABLED group drops every offer (R48, R50, R53). -/
def decideGroup (ms : List Moved) (ask : Asked) (G : Group) : Group :=
  match G.state with
  | .disabled => G
  | .armed =>
    match (offers ms G.number).min? with
    | none => G
    | some n => { G with state := .captured n }
  | .captured _ => if released ms ask G then { G with state := .armed } else G

/-- The point whose mark the decision raised or lowered (R50, R53). -/
def markMoved (before after : Group) : Option Nat :=
  match before.state, after.state with
  | .armed, .captured n => some n
  | .captured n, .armed => some n
  | _, _ => none

/-! ### Posting (R33, R171) -/

/-- Posts for the points of `ns`, in that order: an entry keeps its place and loses its in-flight mark, a point without an
entry is appended (R171). -/
def post (ns : List Nat) (cs : List ChangeEntry) : List ChangeEntry :=
  (cs.map fun e => if e.point ∈ ns then { e with inFlight := false } else e) ++
    (ns.filter fun n => !cs.any fun e => e.point == n).map fun n => { point := n, inFlight := false }

/-- The points an event posts, in the order of the point table, which is ascending (R33, R171). -/
def posted (ms : List Moved) (marks : List Nat) : List Nat :=
  (ms.filter fun m => m.post || marks.contains m.point.number).map fun m => m.point.number

/-- The same with the points of `lead` first, in the order of `lead`: a minute expiry's own points (R109, R171, log 14). -/
def leadWith (lead ns : List Nat) : List Nat := (lead.filter fun n => ns.contains n) ++ ns.filter fun n => !lead.contains n

/-! ### The re-trigger gap (R151) -/

/-- The gap after an event, judged on CMN and the gap as they stood before it; `entered` says that some point entered
ALERT (R151). -/
def gapAfter (before : State) (entered : Bool) : Option Nat :=
  if entered && before.output.retrigger && (cmn before || before.output.gap.isSome) then some 0 else before.output.gap

/-! ### One event of the point table (R5) -/

/-- One event taken whole: `f` gives what it does to each point; then the group unit decides the event's offers and releases
together, the points are posted, and the output unit takes the re-trigger events together (R5, R50, R53, R151, R171). -/
def pointEventWith (lead : List Nat) (ask : Asked) (f : Point → Moved) (s : State) : State :=
  let ms := s.points.map f
  let marks := s.groups.filterMap fun G => markMoved G (decideGroup ms ask G)
  { s with
    points := ms.map Moved.point
    groups := s.groups.map (decideGroup ms ask)
    changes := post (leadWith lead (posted ms marks)) s.changes
    output := { s.output with gap := gapAfter s (ms.any Moved.alert) } }

/-- An event that asks nothing of the group unit and posts in ascending order. -/
def pointEvent (f : Point → Moved) (s : State) : State := pointEventWith [] .nothing f s

/-- `f` applied to point `n` alone. -/
def onlyPoint (n : Nat) (f : Point → Moved) (p : Point) : Moved := if p.number = n then f p else .still p

/-- `f` applied to the points that a test selects. -/
def onlyWhere (c : Point → Bool) (f : Point → Moved) (p : Point) : Moved := if c p then f p else .still p

/-- How many points an event changed the state of (R36). -/
def movedCount (f : Point → Moved) (s : State) : Nat := s.points.countP fun p => (f p).changed

/-! ### Records by number -/

/-- A new record placed in ascending order of number. -/
def insertPoint (p : Point) : List Point → List Point
  | [] => [p]
  | q :: qs => if p.number < q.number then p :: q :: qs else q :: insertPoint p qs

/-- Point `n` changed by `f`; the others as they are. -/
def updatePoint (n : Nat) (f : Point → Point) (ps : List Point) : List Point := ps.map fun p => if p.number = n then f p else p

/-- Group `g` changed by `f`; the others as they are. -/
def updateGroup (g : Nat) (f : Group → Group) (gs : List Group) : List Group := gs.map fun G => if G.number = g then f G else G

/-- Line `n` changed by `f`; the others as they are. -/
def updateLine (n : Nat) (f : Line → Line) (ls : List Line) : List Line := ls.map fun L => if L.number = n then f L else L

/-! ### The horns' waves (R145) -/

/-- The horn changed by `f`; the other as it is. -/
def Output.updateHorn (o : Output) (h : HornId) (f : Horn → Horn) : Output :=
  match h with
  | .horn1 => { o with horn1 := f o.horn1 }
  | .horn2 => { o with horn2 := f o.horn2 }

/-- The wave put at rest, at the start of a high half (R145). -/
def Horn.atRest (x : Horn) : Horn := { x with wave := .rest }

/-- The end of an event: a horn that does not sound goes low, and any half of its wave is cut short, so that it starts with a
high half when it next begins to sound (R145). -/
def restHorns (s : State) : State :=
  s.withOutput
    { s.output with
      horn1 := if sounding s .horn1 then s.output.horn1 else s.output.horn1.atRest
      horn2 := if sounding s .horn2 then s.output.horn2 else s.output.horn2.atRest }

/-- An event without a status: the next state, with the horns' waves following (R145). -/
def done (s : State) : Host.Outcome State Fault Refusal := .next (restHorns s)

/-! ### Field line delivery (R73, R79) -/

/-- A batch: the lines it names, each with its new qualified state (R73). -/
abbrev Batch := List (Nat × Condition)

/-- The qualified state that a batch delivers for line `n`. -/
def Batch.state (b : Batch) (n : Nat) : Option Condition := (b.find? fun e => e.1 == n).map Prod.snd

/-- What a batch does to one point: a LINE point that names a line of the batch takes the delivered state (R9, R73). -/
def takeBatch (b : Batch) (p : Point) : Moved :=
  match p.defn.source with
  | .host => .still p
  | .line n =>
    match b.state n with
    | none => .still p
    | some c => takeCondition c p

/-- Every line's qualified state counts as handed to the point table (R73). -/
def handLines (ls : List Line) : List Line := ls.map fun L => { L with handed := L.qualified }

/-- A batch delivered to the point table as one event (R73). -/
def deliver (b : Batch) (s : State) : State := (pointEvent (takeBatch b) s).withLines (handLines s.lines)

/-! ### Taking a host command (R158 to R164) -/

/-- A command's answer: its status, its result bytes (none unless the status is OK), and the state its event leaves. -/
structure Answer where
  status  : Status
  results : List Byte
  state   : State

/-- A command that is performed without result bytes. -/
def Answer.ok (s : State) : Answer := { status := .ok, results := [], state := s }

/-- A command that reads: OK, its results, nothing changed. -/
def Answer.read (s : State) (results : List Byte) : Answer := { status := .ok, results := results, state := s }

/-- A refused command: no effect, no results (R165). -/
def Answer.refuse (s : State) (st : Status) : Answer := { status := st, results := [], state := s }

/-- While the part is SETTLING every command but READ-STATUS and RESET-DEVICE is taken with status BUSY (R164). -/
def unlessBusy (effect : State → Answer) (s : State) : Answer := if isReady s then effect s else .refuse s .busy

/-- The transaction right after the taking of the command whose bytes are `bytes` (R160, R161). -/
def replied (bytes : List Byte) (reply : List Byte) : Port :=
  .active { received := bytes, shift := 0, edges := 0, positions := bytes.length, reply := some reply }

/-- The taking: the effect, then the status and the results composed for the positions that follow (R160). -/
def taken (bytes : List Byte) (effect : State → Answer) (s : State) : State :=
  let a := effect s
  restHorns (a.state.withPort (replied bytes (a.status.code :: a.results)))

/-- The port can receive a command: RSTN high, and a transaction that has just begun (R158, log 3). -/
abbrev PortOpen (s : State) : Prop := s.rstn = true ∧ s.port = .active .fresh

/-- A host command as one step: its bytes are clocked in from the start of a transaction and its last operand position
completes. Where the port has no transaction at its start, no command can be taken and nothing changes (R158, log 1, log 3). -/
def atTaking (take : State → State) (s : State) : Host.Outcome State Fault Refusal :=
  .next (if PortOpen s then take s else s)

end Sys2Proof.Machine
end

