-- ==== Sys2Proof/Machine/Groups.lean ====
section
/-! DEFINITION. The group commands (03): CONFIGURE-GROUP, RELEASE-GROUP, READ-GROUP. -/

namespace Sys2Proof.Machine

/-- The release of one group as an event of its own: a CAPTURED group returns to ARMED and its former captured point is
posted (R53, R56). -/
def releaseEvent (g : Nat) (s : State) : State :=
  pointEventWith [] { released := fun G => G.number == g, cleared := fun _ => false } Moved.still s

/-- A group with its configuration written: ARMED when enabled, DISABLED when not (R59 steps 2 and 3). -/
def Group.configure (G : Group) (enable : Bool) (release : Release) : Group :=
  { G with enabled := enable, release := release, state := if enable then .armed else .disabled }

/-- An accepted CONFIGURE-GROUP: the release, then the fields and the state (R59). -/
def configureGroupEvent (g : Nat) (enable : Bool) (release : Release) (s : State) : State :=
  let t := releaseEvent g s
  t.withGroups (updateGroup g (fun G => G.configure enable release) t.groups)

/-- CONFIGURE-GROUP's checks and effect (R59). -/
def configureGroup (group enable release : Byte) (s : State) : Answer :=
  match groupOf group, twoValued enable, releaseOf release with
  | some g, some e, some r => .ok (configureGroupEvent g e r s)
  | _, _, _ => .refuse s .badArgument

def takeConfigureGroup (group enable release : Byte) : State → State :=
  taken [0x30, group, enable, release] (unlessBusy (configureGroup group enable release))

/-- CONFIGURE_GROUP (R59). -/
def execConfigureGroup (group enable release : Byte) (s : State) : Host.Outcome State Fault Refusal :=
  atTaking (takeConfigureGroup group enable release) s

/-- RELEASE-GROUP's check and effect (R56). -/
def releaseGroup (group : Byte) (s : State) : Answer :=
  match groupOf group with
  | some g => .ok (releaseEvent g s)
  | none => .refuse s .badArgument

def takeReleaseGroup (group : Byte) : State → State := taken [0x31, group] (unlessBusy (releaseGroup group))

/-- RELEASE_GROUP (R56). -/
def execReleaseGroup (group : Byte) (s : State) : Host.Outcome State Fault Refusal := atTaking (takeReleaseGroup group) s

/-- The bits 5 and 4 of a group's state: 0 DISABLED, 1 ARMED, 2 CAPTURED (R186). -/
def GroupState.bits : GroupState → List Bool
  | .disabled => [false, false]
  | .armed => [true, false]
  | .captured _ => [false, true]

/-- The captured point, or 0xFF when none (R186). -/
def GroupState.pointByte : GroupState → Byte
  | .disabled => 0xFF
  | .armed => 0xFF
  | .captured n => byteOf n

/-- The READ-GROUP result (R62, R186). -/
def groupBytes (G : Group) : List Byte :=
  [byteOfBits ([G.enabled, G.release == .manual, false, false] ++ G.state.bits), G.state.pointByte]

/-- READ-GROUP (R62). -/
def readGroup (group : Byte) (s : State) : Answer :=
  match groupOf group with
  | some g => .read s (groupBytes (groupAt s g))
  | none => .refuse s .badArgument

def takeReadGroup (group : Byte) : State → State := taken [0x32, group] (unlessBusy (readGroup group))

/-- READ_GROUP (R62). -/
def execReadGroup (group : Byte) (s : State) : Host.Outcome State Fault Refusal := atTaking (takeReadGroup group) s

end Sys2Proof.Machine
end

