-- ==== Sys2Proof/Machine/Display.lean ====
section
/-! DEFINITION. The panel display (07): patterns, resolution, overrides, the drive, frames, and the display commands. -/

namespace Sys2Proof.Machine

/-- The six display patterns (R119). -/
inductive Pattern where
  | off
  | steady
  | wink
  | slow
  | fast
  | first
deriving DecidableEq, Repr

/-- The rank of a pattern, which is its code (R119). -/
def Pattern.rank : Pattern → Nat
  | .off => 0
  | .steady => 1
  | .wink => 2
  | .slow => 3
  | .fast => 4
  | .first => 5

/-- The contribution of a point by its state and its first-out mark (R61). -/
def contribution : PointState → Bool → Pattern
  | .normal, mark => if mark then .wink else .off
  | .alert, mark => if mark then .first else .fast
  | .cleared, mark => if mark then .first else .fast
  | .acked, mark => if mark then .wink else .steady
  | .hold, mark => if mark then .wink else .steady
  | .returned, _ => .slow
  | .shelved, _ => .off

/-- The pattern of higher rank. -/
def Pattern.higher (a b : Pattern) : Pattern := if a.rank < b.rank then b else a

/-- The binders of a cell (R3, R118). -/
def binders (s : State) (cell : Nat) : List Point := s.points.filter fun p => p.defn.cells.contains cell

/-- The resolved pattern of a cell: the highest rank among its binders' contributions (R119). -/
def resolved (s : State) (cell : Nat) : Pattern :=
  (binders s cell).foldr (fun p acc => (contribution p.state (firstOut s.groups p)).higher acc) .off

/-- A pattern is lit at a value of the cycle counter (R121). -/
def Pattern.lit (c : Nat) : Pattern → Bool
  | .off => false
  | .steady => true
  | .wink => c % 1024 < 896
  | .slow => c < 1024
  | .fast => c % 512 < 256
  | .first => c % 1024 < 128 || (256 ≤ c % 1024 && c % 1024 < 384)

/-- The lit-now state of a cell at the counter value, by the four cases of R126. -/
def litNow (s : State) (cell : Nat) : Bool :=
  if testActive s then true
  else
    match resolved s cell with
    | .off => false
    | .steady => if s.display.quiet then false else Pattern.steady.lit s.time.cycle
    | .wink => if s.display.quiet then false else Pattern.wink.lit s.time.cycle
    | .slow => Pattern.slow.lit s.time.cycle
    | .fast => Pattern.fast.lit s.time.cycle
    | .first => Pattern.first.lit s.time.cycle

/-- A cell is shown while the drive is ACTIVE and its common lies within the commons in effect (R117, R131). -/
def shown (d : Display) (cell : Nat) : Bool := d.drive == .active && cell / Config.segmentCount < d.commons

/-- The image of the 160 cells at the counter value: lit where a cell is shown and lit now (R132). -/
def frameImage (s : State) : List Bool := (List.range Config.cellCount).map fun cell => shown s.display cell && litNow s cell

/-- What the COM and SEG lines show at a cell: the frame image, dark when there is none (R128, R132). -/
def panelLit (s : State) (cell : Nat) : Bool :=
  match s.display.image with
  | none => false
  | some image => image.getD cell false

/-- A frame boundary at the counter value `c`: the commons pending takes effect, then an ACTIVE drive takes a new image
(R132). -/
def takeFrame (c : Nat) (s : State) : State :=
  let t := s.withDisplay { s.display with commons := s.display.commonsPending }
  if t.display.drive = .active then
    t.withDisplay { t.display with image := some (frameImage (t.withTime { t.time with cycle := c })) }
  else t

/-- The frame boundary of this tick, when it is due (R132, R193). -/
def frameBoundary (s : State) : State :=
  if s.time.frameDue then (takeFrame s.time.cycle s).withTime { s.time with frameDue := false } else s

/-- The frame boundary of the next tick, taken ahead of that tick's sampling at the counter value that the tick brings: a test
claim that the tick's samples change then appears 16 ticks later (R134, log 22). -/
def frameAheadEvent (s : State) : State :=
  (takeFrame (nextCycle s.time.cycle) s).withTime { s.time with frameAhead := true }

/-- FRAME_BOUNDARY (R132): on its tick, after the sampling of that tick or ahead of it (R134). -/
def execFrameBoundary (s : State) : Host.Outcome State Fault Refusal :=
  done (if !s.time.frameDue && frameCanLead s then frameAheadEvent s else frameBoundary s)

/-- The warm-up end, when it is due: the drive is ACTIVE and takes an image at once (R129). -/
def warmUpEnd (s : State) : State :=
  if warmUpDue s then
    let t := s.withDisplay { s.display with drive := .active }
    t.withDisplay { t.display with image := some (frameImage t) }
  else s

/-- WARM_UP_END (R129). -/
def execWarmUpEnd (s : State) : Host.Outcome State Fault Refusal := done (warmUpEnd s)

/-- A tick of the warm-up count (R129). -/
def Drive.tick : Drive → Drive
  | .warming n => .warming (n + 1)
  | .off => .off
  | .active => .active

/-- The power operand at the drive: on starts a warm-up from OFF, off sets OFF (R128). -/
def Drive.power (d : Drive) (on : Bool) : Drive :=
  if on then
    match d with
    | .off => .warming 0
    | .warming n => .warming n
    | .active => .active
  else .off

/-- The three settings of CONFIGURE-DISPLAY written; power off discards the image (R132, R133). -/
def Display.configure (d : Display) (power : Bool) (commons : Nat) (quiet : Bool) : Display :=
  { d with
    quiet := quiet
    commonsPending := commons
    drive := d.drive.power power
    image := if power then d.image else none }

/-- CONFIGURE-DISPLAY's checks and effect (R133). -/
def configureDisplay (power commons quiet : Byte) (s : State) : Answer :=
  match twoValued power, numberIn 1 4 commons, twoValued quiet with
  | some p, some c, some q => .ok (s.withDisplay (s.display.configure p c q))
  | _, _, _ => .refuse s .badArgument

def takeConfigureDisplay (power commons quiet : Byte) : State → State :=
  taken [0x40, power, commons, quiet] (unlessBusy (configureDisplay power commons quiet))

/-- CONFIGURE_DISPLAY (R133). -/
def execConfigureDisplay (power commons quiet : Byte) (s : State) : Host.Outcome State Fault Refusal :=
  atTaking (takeConfigureDisplay power commons quiet) s

/-- SET-OVERRIDE's check and effect (R127). -/
def setOverride (test : Byte) (s : State) : Answer :=
  match twoValued test with
  | some t => .ok (s.withDisplay { s.display with commandTest := t })
  | none => .refuse s .badArgument

def takeSetOverride (test : Byte) : State → State := taken [0x41, test] (unlessBusy (setOverride test))

/-- SET_OVERRIDE (R127). -/
def execSetOverride (test : Byte) (s : State) : Host.Outcome State Fault Refusal := atTaking (takeSetOverride test) s

/-- The code of a drive state: 0 OFF, 1 WARMING, 2 ACTIVE (R185, R188). -/
def Drive.code : Drive → Nat
  | .off => 0
  | .warming _ => 1
  | .active => 2

/-- The two bits of a drive state. -/
def Drive.bits (d : Drive) : List Bool := [d.code == 1, d.code == 2]

/-- The four-byte header of READ-CELLS (R135, R188). -/
def cellHeader (s : State) : List Byte :=
  [byteOfBits (s.display.drive.bits ++ [s.display.quiet, s.display.commandTest, keyTest s, testActive s]),
    byteOf (s.display.commons % 8 + 16 * (s.display.commonsPending % 8)),
    byteOf (s.time.cycle / 256), byteOf (s.time.cycle % 256)]

/-- The record of one cell (R136, R188). -/
def cellByte (s : State) (cell : Nat) : Byte :=
  byteOf ((resolved s cell).rank + 8 * (litNow s cell).toNat + 16 * (shown s.display cell).toNat)

/-- READ-CELLS's checks and result (R135, R136). -/
def readCells (first count : Byte) (s : State) : Answer :=
  if count.toNat = 0 ∨ Config.maxCells < count.toNat then .refuse s .badArgument
  else if Config.cellCount ≤ first.toNat ∨ Config.cellCount < first.toNat + count.toNat then .refuse s .badArgument
  else .read s (cellHeader s ++ (List.range count.toNat).map fun k => cellByte s (first.toNat + k))

def takeReadCells (first count : Byte) : State → State := taken [0x42, first, count] (unlessBusy (readCells first count))

/-- READ_CELLS (R135). -/
def execReadCells (first count : Byte) (s : State) : Host.Outcome State Fault Refusal := atTaking (takeReadCells first count) s

end Sys2Proof.Machine
end

