-- ==== Sys2Proof/Machine/HostPoints.lean ====
section
/-! DEFINITION. Host-asserted points and their ageing (05): ASSERT, REFRESH-ALL, CONFIGURE-LEASE and the lease expiry. -/

namespace Sys2Proof.Machine

/-- ASSERT's checks (R90) and effect (R91). -/
def assertPoint (point value : Byte) (s : State) : Answer :=
  match pointOf point, conditionOf value with
  | some n, some v =>
    match pointAt s n with
    | none => .refuse s .vacant
    | some p =>
      if p.defn.source = .host then .ok (pointEvent (onlyPoint n (takeAgeing v 0 false)) s) else .refuse s .wrongSource
  | _, _ => .refuse s .badArgument

def takeAssert (point value : Byte) : State → State := taken [0x18, point, value] (unlessBusy (assertPoint point value))

/-- ASSERT (R90, R91). -/
def execAssert (point value : Byte) (s : State) : Host.Outcome State Fault Refusal := atTaking (takeAssert point value) s

def takeRefreshAll : State → State := taken [0x19] (unlessBusy fun s => .ok (pointEvent refresh s))

/-- REFRESH_ALL (R92). -/
def execRefreshAll (s : State) : Host.Outcome State Fault Refusal := atTaking takeRefreshAll s

/-- An accepted CONFIGURE-LEASE: the interval is written, the count restarts, every HOST point is refreshed (R94). -/
def configureLease (interval : Byte) (s : State) : Answer :=
  .ok (pointEvent refresh (s.withTime { s.time with leaseInterval := interval.toNat, leaseCount := 0 }))

def takeConfigureLease (interval : Byte) : State → State := taken [0x1A, interval] (unlessBusy (configureLease interval))

/-- CONFIGURE_LEASE (R94). -/
def execConfigureLease (interval : Byte) (s : State) : Host.Outcome State Fault Refusal :=
  atTaking (takeConfigureLease interval) s

/-- A lease expiry at one point: a HOST point below age 3 ages by one, and is stale when it reaches 3 (R95). -/
def ageByOne (p : Point) : Moved :=
  if p.defn.source = .host ∧ p.run.age < Config.staleAge then
    takeAgeing p.run.asserted (p.run.age + 1) (p.run.age + 1 == Config.staleAge) p
  else .still p

/-- The expiry makes the point stale (R96). -/
def turnsStale (p : Point) : Bool := p.defn.source == .host && p.run.age + 1 == Config.staleAge

/-- The lease expiry, when one is due (R95); STALE_SEEN is set when it makes a point stale (R96). -/
def leaseExpiry (s : State) : State :=
  if leaseDue s then
    let t := (pointEvent ageByOne s).withTime { s.time with leaseCount := 0 }
    if s.points.any turnsStale then t.withFlags { s.flags with staleSeen := .raised } else t
  else s

/-- LEASE_EXPIRY (R95). -/
def execLeaseExpiry (s : State) : Host.Outcome State Fault Refusal := done (leaseExpiry s)

end Sys2Proof.Machine
end

