-- ==== Sys2Proof/Machine/Outputs.lean ====
section
/-! DEFINITION. The horns and the common-alarm output (08): CONFIGURE-HORN, READ-OUTPUTS, the wrap, the gap end and the
half-wave end. -/

namespace Sys2Proof.Machine

/-- CONFIGURE-HORN at its horn: the enable, and a tone pending that replaces any held (R148). -/
def Horn.configure (x : Horn) (enable : Bool) (tone : Nat) : Horn := { x with enable := enable, tonePending := some tone }

/-- CONFIGURE-HORN's checks and effect (R148). -/
def configureHorn (horn enable tone retrigger : Byte) (s : State) : Answer :=
  match hornOf horn, twoValued enable, numberIn 1 63 tone, twoValued retrigger with
  | some h, some e, some n, some r =>
    .ok (s.withOutput { s.output.updateHorn h (fun x => x.configure e n) with retrigger := r })
  | _, _, _, _ => .refuse s .badArgument

def takeConfigureHorn (horn enable tone retrigger : Byte) : State → State :=
  taken [0x48, horn, enable, tone, retrigger] (unlessBusy (configureHorn horn enable tone retrigger))

/-- CONFIGURE_HORN (R148). -/
def execConfigureHorn (horn enable tone retrigger : Byte) (s : State) : Host.Outcome State Fault Refusal :=
  atTaking (takeConfigureHorn horn enable tone retrigger) s

/-- The READ-OUTPUTS result (R154, R189). -/
def outputBytes (s : State) : List Byte :=
  [byteOfBits
      [hornRequest s .horn1, hornRequest s .horn2, s.output.horn1.enable, s.output.horn2.enable, sounding s .horn1,
        sounding s .horn2, s.output.retrigger],
    byteOf (governing s .horn1 + 16 * governing s .horn2),
    byteOf s.output.horn1.tone, byteOf (s.output.horn1.tonePending.getD 0),
    byteOf s.output.horn2.tone, byteOf (s.output.horn2.tonePending.getD 0),
    byteOfBits [alarmPresent s, cmn s, s.output.gap.isSome]]

def takeReadOutputs : State → State := taken [0x49] (unlessBusy fun s => .read s (outputBytes s))

/-- READ_OUTPUTS (R154). -/
def execReadOutputs (s : State) : Host.Outcome State Fault Refusal := atTaking takeReadOutputs s

/-- A horn takes its tone pending as its tone in effect (R146). -/
def Horn.takeTone (x : Horn) : Horn := { x with tone := x.tonePending.getD x.tone, tonePending := none }

/-- The wrap of this tick, when it is due, as the output unit takes it (R146). A CONFIGURE-HORN between the tick and this event
writes a tone that this wrap takes, and an enable that acts after the on-phase has begun: the model's choice (R149, log 21). -/
def takeWrap (s : State) : State :=
  if s.time.wrapDue then
    (s.withOutput { s.output with horn1 := s.output.horn1.takeTone, horn2 := s.output.horn2.takeTone }).withTime
      { s.time with wrapDue := false }
  else s

/-- WRAP (R146). -/
def execWrap (s : State) : Host.Outcome State Fault Refusal := done (takeWrap s)

/-- The gap end, when it is due: the gap becomes inactive and CMN follows alarm-present (R152). -/
def gapEnd (s : State) : State := if gapDue s then s.withOutput { s.output with gap := none } else s

/-- GAP_END (R152). -/
def execGapEnd (s : State) : Host.Outcome State Fault Refusal := done (gapEnd s)

/-- The other half of the square wave begins (R145). -/
def Horn.toggle (x : Horn) : Horn := { x with wave := { high := !x.wave.high, elapsed := 0 } }

/-- The half-wave end of a horn, when it is due (R145). -/
def halfWaveEnd (h : HornId) (s : State) : State :=
  if halfWaveDue s h then s.withOutput (s.output.updateHorn h Horn.toggle) else s

/-- HALF_WAVE_END (R145). -/
def execHalfWaveEnd (h : HornId) (s : State) : Host.Outcome State Fault Refusal := done (halfWaveEnd h s)

/-- One REFCLK period of a sounding horn's wave (R145, R146). -/
def Horn.advance (x : Horn) : Horn := { x with wave := { x.wave with elapsed := x.wave.elapsed + 1 } }

/-- One REFCLK period of both horns' waves; a horn that does not sound keeps its wave at rest (R145). -/
def advanceWaves (s : State) : State :=
  s.withOutput
    { s.output with
      horn1 := if sounding s .horn1 then s.output.horn1.advance else s.output.horn1
      horn2 := if sounding s .horn2 then s.output.horn2.advance else s.output.horn2 }

end Sys2Proof.Machine
end

