-- ==== Sys2Proof/Machine/Inputs.lean ====
section
/-! DEFINITION. The input unit (04): sampling, filtering, chatter, delivery, the operator keys, and their commands. -/

namespace Sys2Proof.Machine

/-! ### Sampling a line (R68 to R70) -/

/-- The sample of a level: ABNORMAL when it differs from the line's normal level (R68). -/
def Line.sample (L : Line) (level : Level) : Condition := if level = L.normalLevel then .normal else .abnormal

/-- A flip: the filtered state takes the sample, the counts rise, and a TRACKING line that reaches its limit enters
CHATTER (R70). -/
def Line.flip (L : Line) (sample : Condition) : Line :=
  let count := min Config.maxTransitions (L.transitions + 1)
  { L with
    filtered := sample
    runCount := 0
    transitions := count
    flipped := true
    mode := if L.mode = .tracking ∧ L.chatterLimit ≠ 0 ∧ L.chatterLimit ≤ count then .chatter else L.mode }

/-- The filter of an enabled line takes one sample (R69). -/
def Line.filterSample (L : Line) (sample : Condition) : Line :=
  if sample = L.filtered then { L with runCount := 0 }
  else if L.runCount + 1 < L.filter then { L with runCount := L.runCount + 1 }
  else L.flip sample

/-- A tick's level at a line: recorded whatever the mode, and passed to the filter of an enabled line (R68). -/
def Line.takeLevel (L : Line) (level : Level) : Line :=
  let R := { L with raw := level }
  if L.mode = .disabled then R else R.filterSample (L.sample level)

/-- The level of line `n` among the sampled pins; bit n is INn, 1 HIGH. -/
def levelAt (pins : BitVec 24) (n : Nat) : Level := if pins.getLsbD n then .high else .low

/-- The tick's samples of every line (R68). -/
def sampleLines (pins : BitVec 24) (ls : List Line) : List Line := ls.map fun L => L.takeLevel (levelAt pins L.number)

/-- Some line enters CHATTER with the tick's samples (R70). -/
def chatterEntered (pins : BitVec 24) (ls : List Line) : Bool :=
  ls.any fun L => L.mode == .tracking && (L.takeLevel (levelAt pins L.number)).mode == .chatter

/-! ### The keys (R82, R83) -/

/-- A tick's sample of a key line, active low; a qualified press raises a key action when the part is READY and the key
enabled (R82, R83, log 12). The TEST key passes `acts` false: it raises none (R85). -/
def KeyRecord.takeLevel (K : KeyRecord) (high acts : Bool) : KeyRecord :=
  let sample : KeyState := if high then .released else .pressed
  if sample = K.filtered then { K with runCount := 0 }
  else if K.runCount + 1 < Config.keyFilter then { K with runCount := K.runCount + 1 }
  else { K with filtered := sample, runCount := 0, due := K.due || (sample == .pressed && acts && K.enable) }

/-- The tick's samples of the four keys; bits 0 to 3 are ACK, SILENCE, CLEAR and TEST (R82). -/
def sampleKeys (pins : BitVec 4) (ready : Bool) (K : Keys) : Keys :=
  { ack := K.ack.takeLevel (pins.getLsbD 0) ready
    silence := K.silence.takeLevel (pins.getLsbD 1) ready
    clear := K.clear.takeLevel (pins.getLsbD 2) ready
    test := K.test.takeLevel (pins.getLsbD 3) false }

/-- The record of a key that acts. -/
def Keys.record (K : Keys) : ActionKey → KeyRecord
  | .ack => K.ack
  | .silence => K.silence
  | .clear => K.clear

/-- The key action of `k` taken off. -/
def Keys.takeDue (K : Keys) : ActionKey → Keys
  | .ack => { K with ack := { K.ack with due := false } }
  | .silence => { K with silence := { K.silence with due := false } }
  | .clear => { K with clear := { K.clear with due := false } }

/-! ### The chatter window (R72) -/

/-- A chatter-window expiry at one line: a quiet CHATTER line returns to TRACKING, and the counts are cleared (R72). -/
def Line.closeWindow (L : Line) : Line :=
  { L with
    mode := if L.mode = .chatter ∧ L.flipped = false then .tracking else L.mode
    transitions := 0
    flipped := false }

/-- The chatter-window expiry, when one is due (R72, R194). -/
def chatterExpiry (s : State) : State :=
  if chatterDue s then (s.withLines (s.lines.map Line.closeWindow)).withTime { s.time with chatterCount := 0 } else s

/-- CHATTER_WINDOW_EXPIRY (R72). -/
def execChatterWindowExpiry (s : State) : Host.Outcome State Fault Refusal := done (chatterExpiry s)

/-! ### The condition batch (R73, R74) -/

/-- The lines whose qualified state differs from the one last handed to the point table, with their new states (R73). -/
def batchOf (ls : List Line) : Batch :=
  (ls.filter fun L => L.qualified != L.handed).map fun L => (L.number, L.qualified)

/-- The tick's condition batch, after a chatter-window expiry of the same tick; none is delivered while SETTLING, and a tick
that changed no qualified state produces none (R73, R74, log 11). -/
def conditionBatch (s : State) : State :=
  if isReady s then
    let t := chatterExpiry s
    if (batchOf t.lines).isEmpty then t else deliver (batchOf t.lines) t
  else s

/-- CONDITION_BATCH (R73). -/
def execConditionBatch (s : State) : Host.Outcome State Fault Refusal := done (conditionBatch s)

/-! ### CONFIGURE-INPUT (R76 to R80) -/

/-- The settings a CONFIGURE-INPUT writes. -/
structure LineSettings where
  enable       : Bool
  normalLevel  : Level
  filter       : Nat
  chatterLimit : Nat
deriving DecidableEq, Repr

/-- The settings that the operands give; none when one is out of range (R76). -/
def settingsOf (enable normalLevel filter chatterLimit : Byte) : Option LineSettings := do
  let enable ← twoValued enable
  let normalLevel ← levelOf normalLevel
  let filter ← numberIn 1 15 filter
  let chatterLimit ← chatterLimitOf chatterLimit
  return { enable, normalLevel, filter, chatterLimit }

/-- The line's present enable (R65, R77). -/
def Line.enabled (L : Line) : Bool := L.mode != .disabled

/-- A line re-initialised with new settings (R77). -/
def Line.reinitialise (L : Line) (c : LineSettings) : Line :=
  { L with
    normalLevel := c.normalLevel
    filter := c.filter
    chatterLimit := c.chatterLimit
    filtered := .normal
    runCount := 0
    transitions := 0
    flipped := false
    mode := if c.enable then .tracking else .disabled }

/-- A line whose enable and normal level are kept: a new filter restarts the run, a chatter limit of 0 frees a CHATTER
line (R78). -/
def Line.retune (L : Line) (c : LineSettings) : Line :=
  { L with
    filter := c.filter
    chatterLimit := c.chatterLimit
    runCount := if c.filter = L.filter then L.runCount else 0
    mode := if c.chatterLimit = 0 ∧ L.mode = .chatter then .tracking else L.mode }

/-- An accepted CONFIGURE-INPUT at its line (R77, R78). -/
def Line.configure (L : Line) (c : LineSettings) : Line :=
  if c.enable ≠ L.enabled ∨ c.normalLevel ≠ L.normalLevel then L.reinitialise c else L.retune c

/-- The line reconfiguration: the line written, and a change of its qualified state delivered as a batch of its own (R79). -/
def reconfigureLine (n : Nat) (c : LineSettings) (s : State) : State :=
  let before := qualifiedAt s n
  let t := s.withLines (updateLine n (fun L => L.configure c) s.lines)
  if qualifiedAt t n = before then t else deliver [(n, qualifiedAt t n)] t

/-- CONFIGURE-INPUT's checks and effect; the input unit's work on the current tick comes first (R76, R80, log 11). -/
def configureInput (line enable normalLevel filter chatterLimit : Byte) (s : State) : Answer :=
  match numberIn 0 23 line, settingsOf enable normalLevel filter chatterLimit with
  | some n, some c => .ok (reconfigureLine n c (restHorns (conditionBatch s)))
  | _, _ => .refuse s .badArgument

def takeConfigureInput (line enable normalLevel filter chatterLimit : Byte) : State → State :=
  taken [0x38, line, enable, normalLevel, filter, chatterLimit]
    (unlessBusy (configureInput line enable normalLevel filter chatterLimit))

/-- CONFIGURE_INPUT (R76). -/
def execConfigureInput (line enable normalLevel filter chatterLimit : Byte) (s : State) : Host.Outcome State Fault Refusal :=
  atTaking (takeConfigureInput line enable normalLevel filter chatterLimit) s

/-! ### CONFIGURE-KEYS (R86) and READ-INPUTS (R87) -/

/-- The four enables written; filters and filtered states untouched (R86). -/
def Keys.withEnables (K : Keys) (ack silence clear test : Bool) : Keys :=
  { ack := { K.ack with enable := ack }
    silence := { K.silence with enable := silence }
    clear := { K.clear with enable := clear }
    test := { K.test with enable := test } }

def configureKeys (ack silence clear test : Byte) (s : State) : Answer :=
  match twoValued ack, twoValued silence, twoValued clear, twoValued test with
  | some a, some si, some c, some t => .ok (s.withKeys (s.keys.withEnables a si c t))
  | _, _, _, _ => .refuse s .badArgument

def takeConfigureKeys (ack silence clear test : Byte) : State → State :=
  taken [0x3A, ack, silence, clear, test] (unlessBusy (configureKeys ack silence clear test))

/-- CONFIGURE_KEYS (R86). -/
def execConfigureKeys (ack silence clear test : Byte) (s : State) : Host.Outcome State Fault Refusal :=
  atTaking (takeConfigureKeys ack silence clear test) s

/-- The two bits of a line mode: 0 DISABLED, 1 TRACKING, 2 CHATTER (R187). -/
def LineMode.bits : LineMode → List Bool
  | .disabled => [false, false]
  | .tracking => [true, false]
  | .chatter => [false, true]

/-- The READ-INPUTS result (R187). -/
def inputBytes (s : State) : List Byte :=
  flagBytes 3 (fun n => (lineAt s n).raw == .high) ++
  flagBytes 3 (fun n => (lineAt s n).filtered == .abnormal) ++
  flagBytes 3 (fun n => (lineAt s n).qualified == .abnormal) ++
  (List.range 6).map (fun m => byteOfBits ((List.range 4).flatMap fun j => (lineAt s (4 * m + j)).mode.bits)) ++
  [byteOfBits
    [s.keys.ack.filtered == .pressed, s.keys.silence.filtered == .pressed, s.keys.clear.filtered == .pressed,
      s.keys.test.filtered == .pressed, s.keys.ack.enable, s.keys.silence.enable, s.keys.clear.enable, s.keys.test.enable]]

def takeReadInputs : State → State := taken [0x39] (unlessBusy fun s => .read s (inputBytes s))

/-- READ_INPUTS (R87). -/
def execReadInputs (s : State) : Host.Outcome State Fault Refusal := atTaking takeReadInputs s

end Sys2Proof.Machine
end

