-- ==== Sys2Proof/Machine/Sequences.lean ====
section
/-! DEFINITION. ACKNOWLEDGE, SILENCE and CLEAR with their scopes, and the key actions (02). -/

namespace Sys2Proof.Machine

/-- ACK at every covered point (R37). -/
def ackPoints (sc : Scope) : Point → Moved := onlyWhere sc.covers (arrive .ack)

/-- CLR at every covered point (R39). -/
def clearPoints (sc : Scope) : Point → Moved := onlyWhere sc.covers (arrive .clr)

/-- The groups that a CLEAR asks to release (R40). -/
def clearAsks (sc : Scope) (G : Group) (p : Option Point) : Bool :=
  match sc with
  | .all => true
  | .group g => G.number == g
  | .point n => G.state == .captured n && p.any fun q => q.group == G.number

/-- The point that a point scope names. -/
def scopePoint (s : State) : Scope → Option Point
  | .point n => pointAt s n
  | .group _ => none
  | .all => none

/-- The states in which SILENCE sets the flag (R34). -/
def PointState.silenceable : PointState → Bool
  | .alert => true
  | .cleared => true
  | .returned => true
  | .normal => false
  | .acked => false
  | .hold => false
  | .shelved => false

/-- SILENCE sets the flag of this point (R38). -/
def silences (sc : Scope) (p : Point) : Bool := sc.covers p && p.state.silenceable && !p.run.silenced

/-- The flag set where SILENCE sets it (R38). -/
def silencePoint (sc : Scope) (p : Point) : Point :=
  if silences sc p then { p with run := { p.run with silenced := true } } else p

/-- ACKNOWLEDGE as an event (R37). -/
def acknowledgeEvent (sc : Scope) (s : State) : State := pointEvent (ackPoints sc) s

/-- SILENCE as an event (R38). -/
def silenceEvent (sc : Scope) (s : State) : State := s.withPoints (s.points.map (silencePoint sc))

/-- CLEAR as an event: the CLR arrivals, and then the release requests (R39, R40, R55). -/
def clearEvent (sc : Scope) (s : State) : State :=
  pointEventWith [] { released := fun _ => false, cleared := fun G => clearAsks sc G (scopePoint s sc) } (clearPoints sc) s

/-- The checks of a scope (R35), then the event, answered with the count (R36). -/
def withScope (scope : Byte) (count : Scope → State → Nat) (event : Scope → State → State) (s : State) : Answer :=
  match scopeOf scope with
  | none => .refuse s .badArgument
  | some (.point n) =>
    if (pointAt s n).isNone then .refuse s .vacant
    else { status := .ok, results := [byteOf (count (.point n) s)], state := event (.point n) s }
  | some sc => { status := .ok, results := [byteOf (count sc s)], state := event sc s }

/-- The points that an acknowledge moves (R36, R37). -/
def ackCount (sc : Scope) (s : State) : Nat := movedCount (ackPoints sc) s

/-- The points whose flag a silence sets (R36, R38). -/
def silenceCount (sc : Scope) (s : State) : Nat := s.points.countP (silences sc)

/-- The points that a clear moves (R36, R39). -/
def clearCount (sc : Scope) (s : State) : Nat := movedCount (clearPoints sc) s

def takeAcknowledge (scope : Byte) : State → State :=
  taken [0x20, scope] (unlessBusy (withScope scope ackCount acknowledgeEvent))

/-- ACKNOWLEDGE (R37). -/
def execAcknowledge (scope : Byte) (s : State) : Host.Outcome State Fault Refusal := atTaking (takeAcknowledge scope) s

def takeSilence (scope : Byte) : State → State := taken [0x21, scope] (unlessBusy (withScope scope silenceCount silenceEvent))

/-- SILENCE (R38). -/
def execSilence (scope : Byte) (s : State) : Host.Outcome State Fault Refusal := atTaking (takeSilence scope) s

def takeClear (scope : Byte) : State → State := taken [0x22, scope] (unlessBusy (withScope scope clearCount clearEvent))

/-- CLEAR (R39, R40). -/
def execClear (scope : Byte) (s : State) : Host.Outcome State Fault Refusal := atTaking (takeClear scope) s

/-- The event of a key: the command of the same name with scope 0xFF (R41). -/
def keyEvent : ActionKey → State → State
  | .ack => acknowledgeEvent .all
  | .silence => silenceEvent .all
  | .clear => clearEvent .all

/-- A key action that is due is taken; it is ignored while the part is SETTLING or the key is disabled (R41, R83, log 12). -/
def keyAction (k : ActionKey) (s : State) : State :=
  if (s.keys.record k).due then
    let t := s.withKeys (s.keys.takeDue k)
    if isReady s && (s.keys.record k).enable then keyEvent k t else t
  else s

/-- KEY_ACTION (R41). -/
def execKeyAction (k : ActionKey) (s : State) : Host.Outcome State Fault Refusal := done (keyAction k s)

end Sys2Proof.Machine
end

