-- ==== Sys2Proof/Machine/Shelving.lean ====
section
/-! DEFINITION. The shelf (06): SHELVE, UNSHELVE, READ-SHELF and the minute expiry. -/

namespace Sys2Proof.Machine

/-- An entry placed after every entry whose remaining is less than or equal to its own (R101). -/
def placeEntry (e : ShelfEntry) : List ShelfEntry → List ShelfEntry
  | [] => [e]
  | x :: xs => if x.remaining ≤ e.remaining then x :: placeEntry e xs else e :: x :: xs

/-- The entry of a point removed; those behind it close up (R101). -/
def removeEntry (n : Nat) (es : List ShelfEntry) : List ShelfEntry := es.filter fun e => e.point != n

/-- SHELVE at point `n`: the entry is placed, the SHELVE arrival is applied, and the group that holds the point as its
captured point is released (R104, R57). -/
def shelveEvent (p : Point) (minutes : Nat) (s : State) : State :=
  pointEventWith []
    { released := fun G => G.number == p.group && G.state == .captured p.number, cleared := fun _ => false }
    (onlyPoint p.number (arrive .shelve))
    (s.withShelf (placeEntry { point := p.number, remaining := minutes } s.shelf))

/-- A re-shelve: the entry is removed from its place and placed anew (R105). -/
def reshelveEvent (n minutes : Nat) (s : State) : State :=
  s.withShelf (placeEntry { point := n, remaining := minutes } (removeEntry n s.shelf))

/-- SHELVE's checks (R103) and effect (R104, R105). -/
def shelvePoint (point minutes : Byte) (s : State) : Answer :=
  match pointOf point, numberIn 1 Config.maxMinutes minutes with
  | some n, some m =>
    match pointAt s n with
    | none => .refuse s .vacant
    | some p =>
      if p.defn.shelvable = false then .refuse s .notShelvable
      else if p.state = .shelved then .ok (reshelveEvent n m s)
      else if Config.shelfEntries ≤ s.shelf.length then .refuse s .shelfFull
      else .ok (shelveEvent p m s)
  | _, _ => .refuse s .badArgument

def takeShelve (point minutes : Byte) : State → State := taken [0x28, point, minutes] (unlessBusy (shelvePoint point minutes))

/-- SHELVE (R103 to R105). -/
def execShelve (point minutes : Byte) (s : State) : Host.Outcome State Fault Refusal := atTaking (takeShelve point minutes) s

/-- UNSHELVE at point `n`: the entry is removed and the UNSHELVE arrival applied (R107). -/
def unshelveEvent (n : Nat) (s : State) : State :=
  pointEvent (onlyPoint n (arrive .unshelve)) (s.withShelf (removeEntry n s.shelf))

/-- UNSHELVE's checks and effect (R107). -/
def unshelvePoint (point : Byte) (s : State) : Answer :=
  match pointOf point with
  | none => .refuse s .badArgument
  | some n =>
    match pointAt s n with
    | none => .refuse s .vacant
    | some p => if p.state = .shelved then .ok (unshelveEvent n s) else .refuse s .wrongState

def takeUnshelve (point : Byte) : State → State := taken [0x29, point] (unlessBusy (unshelvePoint point))

/-- UNSHELVE (R107). -/
def execUnshelve (point : Byte) (s : State) : Host.Outcome State Fault Refusal := atTaking (takeUnshelve point) s

/-- The READ-SHELF result (R112, R186). -/
def shelfBytes (s : State) : List Byte :=
  byteOf s.shelf.length :: s.shelf.flatMap fun e => [byteOf e.point, byteOf e.remaining]

def takeReadShelf : State → State := taken [0x2A] (unlessBusy fun s => .read s (shelfBytes s))

/-- READ_SHELF (R112). -/
def execReadShelf (s : State) : Host.Outcome State Fault Refusal := atTaking takeReadShelf s

/-- Every entry one minute lower (R109 step 1). -/
def lowered (es : List ShelfEntry) : List ShelfEntry := es.map fun e => { e with remaining := e.remaining - 1 }

/-- The points whose entries run out, in list order (R109 step 2). -/
def runOut (es : List ShelfEntry) : List Nat := ((lowered es).filter fun e => e.remaining == 0).map ShelfEntry.point

/-- The minute expiry, when one is due: the entries are lowered, those at 0 removed, and their points unshelved in one
event (R109). -/
def minuteExpiry (s : State) : State :=
  if minuteDue s then
    let out := runOut s.shelf
    pointEventWith out .nothing (onlyWhere (fun p => out.contains p.number) (arrive .unshelve))
      ((s.withShelf ((lowered s.shelf).filter fun e => e.remaining != 0)).withTime { s.time with minuteCount := 0 })
  else s

/-- MINUTE_EXPIRY (R109). -/
def execMinuteExpiry (s : State) : Host.Outcome State Fault Refusal := done (minuteExpiry s)

end Sys2Proof.Machine
end

