-- ==== Sys2Proof/Machine/Timebase.lean ====
section
/-! DEFINITION. The timebase and device control (10): resets, RESTART, the settle end, the REFCLK period and the tick. -/

namespace Sys2Proof.Machine

/-! ### Resets (R198, R199, R201) -/

/-- Every block at its reset values (R198), with the pins and the port given; the queue is not the part's. -/
def resetValues (s : State) (rstn cs : Bool) (port : Port) : State :=
  { State.reset with rstn := rstn, cs := cs, port := port, pending := s.pending }

/-- PIN_RESET (R198): RSTN falls; CS keeps its level, and a transaction in progress is abandoned (R178). -/
def execPinReset (s : State) : Host.Outcome State Fault Refusal := .next (resetValues s false s.cs .idle)

/-- RSTN_RELEASE (R199): the settle begins with every block at its reset values; with CS low the port ignores SCK until CS
rises (R178). With RSTN high there is no release, and nothing changes (log 1). -/
def execRstnRelease (s : State) : Host.Outcome State Fault Refusal :=
  .next (if s.rstn then s else resetValues s true s.cs (if s.cs then .idle else .ignoring))

/-- The reset that the CS rise of a RESET-DEVICE performs: the settle begins at once (R201). -/
def deviceReset (s : State) : State := resetValues s true true .idle

/-- RESET-DEVICE is taken in either device state and changes nothing at its taking (R178). -/
def takeResetDevice : State → State := taken [0x09] Answer.ok

/-- RESET_DEVICE (R178). -/
def execResetDevice (s : State) : Host.Outcome State Fault Refusal := atTaking takeResetDevice s

/-! ### RESTART (R202) -/

/-- A group after RESTART (R64). -/
def Group.restarted (G : Group) : Group := { G with state := if G.enabled then .armed else .disabled }

/-- A point after RESTART (R22). -/
def Point.restarted (p : Point) : Point := { p with run := .initial }

/-- The RESTART event (R202). -/
def restartEvent (s : State) : State :=
  { s with
    points := s.points.map Point.restarted
    groups := s.groups.map Group.restarted
    shelf := []
    output := { s.output with gap := none }
    changes := []
    flags := .clear
    time := { s.time with leaseCount := 0, minuteCount := 0, device := .settling 0, settleAhead := false } }

def takeRestart : State → State := taken [0x08] (unlessBusy fun s => .ok (restartEvent s))

/-- RESTART (R179, R202). -/
def execRestart (s : State) : Host.Outcome State Fault Refusal := atTaking takeRestart s

/-! ### The settle end (R200) -/

/-- What the settle end does to a point: a LINE point takes its line's current qualified state (R200 step 1). -/
def takeLineState (s : State) (p : Point) : Moved :=
  match p.defn.source with
  | .line n => takeCondition (qualifiedAt s n) p
  | .host => .still p

/-- The settle end as one event (R200). Taken ahead of the sampling of its tick, it leaves that tick to pass without
counting in the lease timer and the minute counter, which start with the ticks after the settle end (R195, log 10). -/
def settleEndEvent (s : State) : State :=
  ((pointEvent (takeLineState s) s).withLines (handLines s.lines)).withTime
    { s.time with
      leaseCount := 0
      minuteCount := 0
      device := .ready
      settleAhead := s.time.device == .settling (Config.settleLength - 1) }

/-- The settle end, when its tick has brought the settle count to 32 (R197). -/
def settleEnd (s : State) : State := if settleDue s then settleEndEvent s else s

/-- SETTLE_END (R200): on its tick, after the sampling of that tick or ahead of it (R74). -/
def execSettleEnd (s : State) : Host.Outcome State Fault Refusal :=
  done (if settleDue s || settleCanLead s then settleEndEvent s else s)

/-! ### The tick (R190 to R197) -/

/-- The lease timer and the minute counter run: READY, and not on the tick of a settle end already taken (R195). -/
def intervalRuns (t : Timebase) : Bool := t.device == .ready && !t.settleAhead

/-- A tick of the settle count (R197). -/
def Device.tick : Device → Device
  | .settling n => .settling (n + 1)
  | .ready => .ready

/-- The timebase at a tick: every count advances, and the wrap and the frame boundary of the tick are due, but for
a boundary taken ahead of it (R192 to R197, log 22). -/
def Timebase.tick (t : Timebase) : Timebase :=
  { t with
    prescaler := 0
    cycle := nextCycle t.cycle
    chatterCount := t.chatterCount + 1
    leaseCount := if intervalRuns t && t.leaseInterval != 0 then t.leaseCount + 1 else t.leaseCount
    minuteCount := if intervalRuns t then t.minuteCount + 1 else t.minuteCount
    device := t.device.tick
    wrapDue := nextCycle t.cycle == 0
    frameDue := framesNext t.cycle && !t.frameAhead
    settleAhead := false
    frameAhead := false }

/-- At the wrap a sounding horn's tone restarts with a high half (R145). -/
def restartTone (wrap : Bool) (x : Horn) : Horn := if wrap then x.atRest else x

/-- The tick itself: the lines and keys are sampled and every tick-driven count advances (R190). At the wrap the counter and
with it the on-phases are at 0 from here on, while the tones pending wait for the WRAP of this tick (R146, R149); that a
command may stand between the two is the model's choice (log 21). -/
def tickEvent (lines : BitVec 24) (keys : BitVec 4) (s : State) : State :=
  let wrap := nextCycle s.time.cycle == 0
  { s with
    lines := sampleLines lines s.lines
    keys := sampleKeys keys (isReady s) s.keys
    flags := if chatterEntered lines s.lines then { s.flags with chatterSeen := .raised } else s.flags
    display := { s.display with drive := s.display.drive.tick }
    output :=
      { s.output with
        horn1 := restartTone wrap s.output.horn1
        horn2 := restartTone wrap s.output.horn2
        gap := s.output.gap.map (· + 1) }
    time := s.time.tick }

/-! ### REFCLK (R190) -/

/-- The events that can be due on the current tick and period, in the fixed order in which those that the sender left out
are taken (log 2). -/
def dueEvents : List (State → State) :=
  [chatterExpiry, conditionBatch, keyAction .ack, keyAction .silence, keyAction .clear, leaseExpiry, minuteExpiry, settleEnd,
    gapEnd, warmUpEnd, takeWrap, frameBoundary, halfWaveEnd .horn1, halfWaveEnd .horn2]

/-- Every event still due is taken before time goes on: each acts only when it is due (log 2). -/
def takeDue (s : State) : State := dueEvents.foldl (fun s event => restHorns (event s)) s

/-- One REFCLK period: what is still due is taken, the sounding horns' waves advance, and the prescaler counts; the period
that would bring it to 32 is a tick (R190). -/
def refclkPeriod (lines : BitVec 24) (keys : BitVec 4) (s : State) : State :=
  let t := advanceWaves (takeDue s)
  if t.time.prescaler + 1 < Config.prescale then t.withTime { t.time with prescaler := t.time.prescaler + 1 }
  else restHorns (tickEvent lines keys t)

/-- REFCLK_PERIOD (R190). While RSTN is low the prescaler is held at 0 and no tick occurs. -/
def execRefclkPeriod (lines : BitVec 24) (keys : BitVec 4) (s : State) : Host.Outcome State Fault Refusal :=
  .next (if s.rstn then refclkPeriod lines keys s else s)

/-- `n` REFCLK periods, one after the other. -/
def refclkPeriods (lines : BitVec 24) (keys : BitVec 4) : Nat → State → State
  | 0, s => s
  | n + 1, s => refclkPeriods lines keys n (refclkPeriod lines keys s)

/-- TICK (R190): the REFCLK periods that are left of the current tick pass, the last of which is the tick (log 4). While RSTN
is low no tick occurs. -/
def execTick (lines : BitVec 24) (keys : BitVec 4) (s : State) : Host.Outcome State Fault Refusal :=
  .next (if s.rstn then refclkPeriods lines keys (Config.prescale - 1 - s.time.prescaler + 1) s else s)

end Sys2Proof.Machine
end

