-- ==== Sys2Proof/Machine/HostPort.lean ====
section
/-! DEFINITION. The host port's own commands (09): READ-STATUS, READ-CHANGES, CONFIGURE-NOTIFY, ECHO, and the unknown code. -/

namespace Sys2Proof.Machine

/-- The READ-STATUS result (R168, R185). -/
def statusBytes (s : State) : List Byte :=
  [byteOfBits
      [s.flags.truncated.isSet, s.flags.unknown.isSet, s.flags.staleSeen.isSet, s.flags.chatterSeen.isSet, false, false, false,
        isReady s],
    byteOf s.changes.length, byteOf s.shelf.length, byteOf (alarmCount s),
    byteOfBits ([stalePresent s, chatterPresent s, testActive s, false] ++ s.display.drive.bits),
    byteOfBits [s.notify.changes, s.notify.errors, false, false, false, false, false, irq s]]

/-- READ-STATUS: the six bytes, and each flag reported set is marked (R168). -/
def readStatus (s : State) : Answer :=
  { status := .ok, results := statusBytes s, state := s.withFlags (s.flags.each .marked) }

def takeReadStatus : State → State := taken [0x01] readStatus

/-- READ_STATUS (R168). -/
def execReadStatus (s : State) : Host.Outcome State Fault Refusal := atTaking takeReadStatus s

/-- The two bytes of a change list entry, from its point as it stands (R173, R184). -/
def entryBytes (s : State) (e : ChangeEntry) : List Byte :=
  match pointAt s e.point with
  | none => [byteOf e.point, 0]
  | some p =>
    [byteOf e.point,
      byteOfBits
        [p.state.code % 2 == 1, p.state.code / 2 % 2 == 1, p.state.code / 4 % 2 == 1, firstOut s.groups p,
          p.run.stale && p.defn.source == .host, p.run.condition == .abnormal]]

/-- The first `c` entries marked in-flight (R172). -/
def markInFlight (c : Nat) (es : List ChangeEntry) : List ChangeEntry :=
  (es.take c).map (fun e => { e with inFlight := true }) ++ es.drop c

/-- READ-CHANGES's check, result and marks (R172, R173). -/
def readChanges (maximum : Byte) (s : State) : Answer :=
  match numberIn 1 Config.maxRead maximum with
  | none => .refuse s .badArgument
  | some m =>
    let c := min m s.changes.length
    { status := .ok
      results := byteOf c :: (s.changes.take c).flatMap (entryBytes s)
      state := s.withChanges (markInFlight c s.changes) }

def takeReadChanges (maximum : Byte) : State → State := taken [0x02, maximum] (unlessBusy (readChanges maximum))

/-- READ_CHANGES (R172). -/
def execReadChanges (maximum : Byte) (s : State) : Host.Outcome State Fault Refusal := atTaking (takeReadChanges maximum) s

/-- CONFIGURE-NOTIFY's check and effect (R176). -/
def configureNotify (changes errors : Byte) (s : State) : Answer :=
  match twoValued changes, twoValued errors with
  | some c, some e => .ok (s.withNotify { changes := c, errors := e })
  | _, _ => .refuse s .badArgument

def takeConfigureNotify (changes errors : Byte) : State → State :=
  taken [0x03, changes, errors] (unlessBusy (configureNotify changes errors))

/-- CONFIGURE_NOTIFY (R176). -/
def execConfigureNotify (changes errors : Byte) (s : State) : Host.Outcome State Fault Refusal :=
  atTaking (takeConfigureNotify changes errors) s

def takeEcho (value : Byte) : State → State := taken [0x05, value] (unlessBusy fun s => .read s [value, ~~~value])

/-- ECHO (R166). -/
def execEcho (value : Byte) (s : State) : Host.Outcome State Fault Refusal := atTaking (takeEcho value) s

/-- An unknown code: UNKNOWN is set, and the status position carries UNKNOWN_COMMAND, in either device state (R163). -/
def unknownCode (s : State) : Answer :=
  { status := .unknownCommand, results := [], state := s.withFlags { s.flags with unknown := .raised } }

def takeUnknown (code : Byte) : State → State := taken [code] unknownCode

/-- UNKNOWN_COMMAND (R163). A term whose code is in the table of R181 is no unknown code. -/
def execUnknownCommand (code : Byte) (s : State) : Host.Outcome State Fault Refusal :=
  if (arity code).isNone then atTaking (takeUnknown code) s else .refused .illFormed

end Sys2Proof.Machine
end

