-- ==== Sys2Proof/Machine/Points.lean ====
section
/-! DEFINITION. The point table's commands (01): DEFINE-POINT, MODIFY-POINT, RETIRE-POINT, READ-POINT, READ-DEFINED. -/

namespace Sys2Proof.Machine

/-- The condition that a source gives at a definition: the line's state as last delivered to the point table, or NORMAL for
HOST (R6, R7). While a condition batch is still to be taken this is the old state, and the batch then delivers the new one
(R12, R16); R6's table and R67 call it the current state. DEDUCED (log 20). -/
def sourceCondition (s : State) : Source → Condition
  | .line n => handedAt s n
  | .host => .normal

/-- An accepted DEFINE-POINT: the record joins the table in NORMAL, and the condition of its source is then taken (R11). -/
def definePointEvent (d : Definition) (s : State) : State :=
  pointEvent (onlyPoint d.number (takeCondition (sourceCondition s d.source)))
    (s.withPoints (insertPoint { defn := d, run := .initial } s.points))

/-- DEFINE-POINT's checks (R10) and effect (R11). -/
def definePoint (b : DefBlock) (s : State) : Answer :=
  match pointOf b.number with
  | none => .refuse s .badArgument
  | some n =>
    if (pointAt s n).isSome then .refuse s .occupied
    else
      match definitionOf n b with
      | none => .refuse s .badArgument
      | some d => .ok (definePointEvent d s)

def takeDefinePoint (b : DefBlock) : State → State := taken (0x10 :: blockBytes b) (unlessBusy (definePoint b))

/-- DEFINE_POINT (R10, R11). A term without the cell bytes of R159 is no command. -/
def execDefinePoint (b : DefBlock) (s : State) : Host.Outcome State Fault Refusal :=
  if b.cells.length = cellBytes b.cellCount then atTaking (takeDefinePoint b) s else .refused .illFormed

/-- The fields that change only at rest: source, sequence and group (R13 step 4). -/
def restFieldsDiffer (d e : Definition) : Bool := d.source != e.source || d.sequence != e.sequence || d.group != e.group

/-- An accepted MODIFY-POINT at its point: the definition is written; a changed source resets the HOST fields and takes the
condition of the new source (R14, R15). -/
def modifyRecord (d : Definition) (c : Condition) (p : Point) : Moved :=
  if p.defn.source = d.source then .still { p with defn := d }
  else
    takeCondition c
      { defn := d, run := { p.run with condition := .normal, asserted := .normal, age := 0, stale := false } }

/-- MODIFY-POINT's checks (R13) and effect (R14, R15). -/
def modifyPoint (b : DefBlock) (s : State) : Answer :=
  match pointOf b.number with
  | none => .refuse s .badArgument
  | some n =>
    match pointAt s n with
    | none => .refuse s .vacant
    | some p =>
      match definitionOf n b with
      | none => .refuse s .badArgument
      | some d =>
        if restFieldsDiffer p.defn d && (p.state != .normal || firstOut s.groups p) then .refuse s .wrongState
        else if !d.shelvable && p.state == .shelved then .refuse s .wrongState
        else .ok (pointEvent (onlyPoint n (modifyRecord d (sourceCondition s d.source))) s)

def takeModifyPoint (b : DefBlock) : State → State := taken (0x11 :: blockBytes b) (unlessBusy (modifyPoint b))

/-- MODIFY_POINT (R13 to R15). A term without the cell bytes of R159 is no command. -/
def execModifyPoint (b : DefBlock) (s : State) : Host.Outcome State Fault Refusal :=
  if b.cells.length = cellBytes b.cellCount then atTaking (takeModifyPoint b) s else .refused .illFormed

/-- The release that a retirement makes: the group that holds the point returns to ARMED, without a post (R17, R57). -/
def releaseRetired (p : Point) (G : Group) : Group :=
  if G.number = p.group ∧ G.state = .captured p.number then { G with state := .armed } else G

/-- An accepted RETIRE-POINT: the shelf entry, the capture, the change list entry and the record go (R17). -/
def retire (p : Point) (s : State) : State :=
  { s with
    shelf := s.shelf.filter fun e => e.point != p.number
    groups := s.groups.map (releaseRetired p)
    changes := s.changes.filter fun e => e.point != p.number
    points := s.points.filter fun q => q.number != p.number }

/-- RETIRE-POINT's checks and effect (R17). -/
def retirePoint (point : Byte) (s : State) : Answer :=
  match pointOf point with
  | none => .refuse s .badArgument
  | some n =>
    match pointAt s n with
    | none => .refuse s .vacant
    | some p => if p.state = .normal ∨ p.state = .shelved then .ok (retire p s) else .refuse s .wrongState

def takeRetirePoint (point : Byte) : State → State := taken [0x12, point] (unlessBusy (retirePoint point))

/-- RETIRE_POINT (R17). -/
def execRetirePoint (point : Byte) (s : State) : Host.Outcome State Fault Refusal := atTaking (takeRetirePoint point) s

/-- The remaining minutes of a point's shelf entry, 0 when it has none (R19). -/
def shelfRemaining (s : State) (n : Nat) : Nat := ((s.shelf.find? fun e => e.point == n).map ShelfEntry.remaining).getD 0

/-- The bits of a state code. -/
def PointState.bits (st : PointState) : List Bool := [st.code % 2 == 1, st.code / 2 % 2 == 1, st.code / 4 % 2 == 1]

/-- The READ-POINT result (R19, R183). -/
def pointBytes (s : State) (p : Point) : List Byte :=
  definitionBytes p.defn ++
  [byteOfBits (p.state.bits ++
      [p.run.condition == .abnormal, p.run.asserted == .abnormal && p.defn.source == .host,
        p.run.stale && p.defn.source == .host, p.run.silenced, firstOut s.groups p]),
    byteOf (if p.defn.source = .host then p.run.age else 0),
    byteOf (if p.state = .shelved then shelfRemaining s p.number else 0)]

/-- READ-POINT (R19). -/
def readPoint (point : Byte) (s : State) : Answer :=
  match pointOf point with
  | none => .refuse s .badArgument
  | some n =>
    match pointAt s n with
    | none => .refuse s .vacant
    | some p => .read s (pointBytes s p)

def takeReadPoint (point : Byte) : State → State := taken [0x13, point] (unlessBusy (readPoint point))

/-- READ_POINT (R19). -/
def execReadPoint (point : Byte) (s : State) : Host.Outcome State Fault Refusal := atTaking (takeReadPoint point) s

/-- The occupancy map (R20, R186). -/
def occupancyBytes (s : State) : List Byte := flagBytes 8 fun n => (pointAt s n).isSome

def takeReadDefined : State → State := taken [0x14] (unlessBusy fun s => .read s (occupancyBytes s))

/-- READ_DEFINED (R20). -/
def execReadDefined (s : State) : Host.Outcome State Fault Refusal := atTaking takeReadDefined s

end Sys2Proof.Machine
end

