-- ==== Sys2Proof/Machine/Transactions.lean ====
section
/-! DEFINITION. The transaction (09, 9.1): CS and SCK edges, the taking at the last operand position, the end of a
transaction, and the SO line. -/

namespace Sys2Proof.Machine

/-- The taking of a host command by the port (R160); an event that is no host command has none. -/
def takeCommand : Instr → State → State
  | .readStatus => takeReadStatus
  | .readChanges m => takeReadChanges m
  | .configureNotify c e => takeConfigureNotify c e
  | .echo v => takeEcho v
  | .restart => takeRestart
  | .resetDevice => takeResetDevice
  | .definePoint b => takeDefinePoint b
  | .modifyPoint b => takeModifyPoint b
  | .retirePoint p => takeRetirePoint p
  | .readPoint p => takeReadPoint p
  | .readDefined => takeReadDefined
  | .assert p v => takeAssert p v
  | .refreshAll => takeRefreshAll
  | .configureLease i => takeConfigureLease i
  | .acknowledge sc => takeAcknowledge sc
  | .silence sc => takeSilence sc
  | .clear sc => takeClear sc
  | .shelve p m => takeShelve p m
  | .unshelve p => takeUnshelve p
  | .readShelf => takeReadShelf
  | .configureGroup g e r => takeConfigureGroup g e r
  | .releaseGroup g => takeReleaseGroup g
  | .readGroup g => takeReadGroup g
  | .configureInput l e nl f c => takeConfigureInput l e nl f c
  | .readInputs => takeReadInputs
  | .configureKeys a si c t => takeConfigureKeys a si c t
  | .configureDisplay p c q => takeConfigureDisplay p c q
  | .setOverride t => takeSetOverride t
  | .readCells f c => takeReadCells f c
  | .configureHorn h e n r => takeConfigureHorn h e n r
  | .readOutputs => takeReadOutputs
  | .unknownCommand c => takeUnknown c
  | .csFall => id
  | .csRise => id
  | .pinReset => id
  | .rstnRelease => id
  | .tick _ _ => id
  | .conditionBatch => id
  | .keyAction _ => id
  | .chatterWindowExpiry => id
  | .leaseExpiry => id
  | .minuteExpiry => id
  | .wrap => id
  | .frameBoundary => id
  | .warmUpEnd => id
  | .gapEnd => id
  | .settleEnd => id
  | .sckRisingEdge _ => id
  | .refclkPeriod _ _ => id
  | .halfWaveEnd _ => id

/-- A position completed before the taking: the byte joins those received, and the command is taken when it is the last of
its operands; an unknown code is handled at position 1 (R159, R160, R163). -/
def completeOperand (b : Byte) (t : Transaction) (s : State) : State :=
  match decodeFrame (t.received ++ [b]) with
  | .incomplete =>
    s.withPort (.active { received := t.received ++ [b], shift := 0, edges := 0, positions := t.positions + 1, reply := none })
  | .command i => takeCommand i s

/-- One rising SCK edge of a transaction in progress: an SI bit is sampled, most significant bit first, and the eighth edge
completes the position; from the status position onward SI is ignored (R158, R161). -/
def sckEdge (si : Bool) (t : Transaction) (s : State) : State :=
  match t.reply with
  | none =>
    let b : Byte := (t.shift <<< 1) ||| BitVec.ofNat 8 si.toNat
    if t.edges + 1 < 8 then s.withPort (.active { t with shift := b, edges := t.edges + 1 })
    else completeOperand b t s
  | some _ =>
    if t.edges + 1 < 8 then s.withPort (.active { t with edges := t.edges + 1 })
    else s.withPort (.active { t with edges := 0, positions := t.positions + 1 })

/-- SCK_RISING_EDGE (R158): ignored while CS is high, while RSTN is low, and until CS rises after a release with CS low
(R178). -/
def execSckRisingEdge (si : Bool) (s : State) : Host.Outcome State Fault Refusal :=
  match s.rstn, s.port with
  | true, .active t => .next (sckEdge si t s)
  | _, _ => .next s

/-- The byte that SO carries in the current position: 0x00 while code and operands are shifted in, then the status, the
results, and 0x00 after the last of them (R159, R161). -/
def soByte (t : Transaction) : Byte :=
  match t.reply with
  | none => 0
  | some bytes => bytes.getD (t.positions - t.received.length) 0

/-- The SO line: the bit that the next rising edge of SCK shifts out, most significant bit first; none is high impedance
(R158, R178, log 15). In a transaction that the port ignores its value is free (log 18). -/
def so (s : State) : Option Bool :=
  if s.rstn && !s.cs then
    match s.port with
    | .active t => some ((soByte t).getLsbD (7 - t.edges))
    | .ignoring => some Config.ignoredSo
    | .idle => none
  else none

/-- CS_FALL (R158): a transaction begins; while RSTN is low the port ignores it (R178). With CS already low nothing changes
(log 1). -/
def execCsFall (s : State) : Host.Outcome State Fault Refusal :=
  .next
    (if s.cs then
      (s.withPins s.rstn false).withPort (if s.rstn then .active .fresh else .idle)
    else s)

/-- The list, from entry number `i` counted from 0, as the CS rise of a READ-CHANGES leaves it: an entry is removed when it
holds its mark and its two positions, the (2i + 5)th and the (2i + 6)th, are complete; every mark is discarded (R174,
log 16). -/
def settleEntries (positions : Nat) : Nat → List ChangeEntry → List ChangeEntry
  | _, [] => []
  | i, e :: es =>
    if e.inFlight ∧ 2 * i + 6 ≤ positions then settleEntries positions (i + 1) es
    else { e with inFlight := false } :: settleEntries positions (i + 1) es

/-- What the CS rise performs for the transaction it ends (R161): a truncated one sets TRUNCATED (R162), READ-STATUS clears
flags (R169), READ-CHANGES removes entries (R174), RESET-DEVICE resets the part (R201). -/
def endTransaction (t : Transaction) (s : State) : State :=
  match t.reply with
  | none => s.withFlags { s.flags with truncated := .raised }
  | some _ =>
    match t.received with
    | [0x01] => s.withFlags (s.flags.each (.acknowledged (decide (3 ≤ t.positions))))
    | [0x02, _] => s.withChanges (settleEntries t.positions 0 s.changes)
    | [0x09] => deviceReset s
    | _ => s

/-- CS_RISE (R161): the transaction ends and is discarded; while RSTN is low the port ignores it (R178). With CS already high
nothing changes (log 1). -/
def execCsRise (s : State) : Host.Outcome State Fault Refusal :=
  if s.cs then .next s
  else
    let u := s.withPins s.rstn true
    match s.rstn, s.port with
    | true, .active t => done ((endTransaction t u).withPort .idle)
    | _, _ => .next (u.withPort .idle)

end Sys2Proof.Machine
end

