-- ==== Sys2Proof/Machine/Dispatch.lean ====
section
/-! DEFINITION. One arm per command: the meaning it calls. -/

namespace Sys2Proof.Machine

def exec (i : Instr) (s : State) : Host.Outcome State Fault Refusal :=
  match i with
  | .readStatus => Sys2Proof.Machine.execReadStatus s
  | .readChanges maximum => Sys2Proof.Machine.execReadChanges maximum s
  | .configureNotify changes errors => Sys2Proof.Machine.execConfigureNotify changes errors s
  | .echo value => Sys2Proof.Machine.execEcho value s
  | .restart => Sys2Proof.Machine.execRestart s
  | .resetDevice => Sys2Proof.Machine.execResetDevice s
  | .definePoint block => Sys2Proof.Machine.execDefinePoint block s
  | .modifyPoint block => Sys2Proof.Machine.execModifyPoint block s
  | .retirePoint point => Sys2Proof.Machine.execRetirePoint point s
  | .readPoint point => Sys2Proof.Machine.execReadPoint point s
  | .readDefined => Sys2Proof.Machine.execReadDefined s
  | .assert point value => Sys2Proof.Machine.execAssert point value s
  | .refreshAll => Sys2Proof.Machine.execRefreshAll s
  | .configureLease interval => Sys2Proof.Machine.execConfigureLease interval s
  | .acknowledge scope => Sys2Proof.Machine.execAcknowledge scope s
  | .silence scope => Sys2Proof.Machine.execSilence scope s
  | .clear scope => Sys2Proof.Machine.execClear scope s
  | .shelve point minutes => Sys2Proof.Machine.execShelve point minutes s
  | .unshelve point => Sys2Proof.Machine.execUnshelve point s
  | .readShelf => Sys2Proof.Machine.execReadShelf s
  | .configureGroup group enable release => Sys2Proof.Machine.execConfigureGroup group enable release s
  | .releaseGroup group => Sys2Proof.Machine.execReleaseGroup group s
  | .readGroup group => Sys2Proof.Machine.execReadGroup group s
  | .configureInput line enable normalLevel filter chatterLimit => Sys2Proof.Machine.execConfigureInput line enable normalLevel filter chatterLimit s
  | .readInputs => Sys2Proof.Machine.execReadInputs s
  | .configureKeys ack silence clear test => Sys2Proof.Machine.execConfigureKeys ack silence clear test s
  | .configureDisplay power commons quiet => Sys2Proof.Machine.execConfigureDisplay power commons quiet s
  | .setOverride test => Sys2Proof.Machine.execSetOverride test s
  | .readCells first count => Sys2Proof.Machine.execReadCells first count s
  | .configureHorn horn enable tone retrigger => Sys2Proof.Machine.execConfigureHorn horn enable tone retrigger s
  | .readOutputs => Sys2Proof.Machine.execReadOutputs s
  | .unknownCommand code => Sys2Proof.Machine.execUnknownCommand code s
  | .csFall => Sys2Proof.Machine.execCsFall s
  | .csRise => Sys2Proof.Machine.execCsRise s
  | .pinReset => Sys2Proof.Machine.execPinReset s
  | .rstnRelease => Sys2Proof.Machine.execRstnRelease s
  | .tick lines keys => Sys2Proof.Machine.execTick lines keys s
  | .conditionBatch => Sys2Proof.Machine.execConditionBatch s
  | .keyAction key => Sys2Proof.Machine.execKeyAction key s
  | .chatterWindowExpiry => Sys2Proof.Machine.execChatterWindowExpiry s
  | .leaseExpiry => Sys2Proof.Machine.execLeaseExpiry s
  | .minuteExpiry => Sys2Proof.Machine.execMinuteExpiry s
  | .wrap => Sys2Proof.Machine.execWrap s
  | .frameBoundary => Sys2Proof.Machine.execFrameBoundary s
  | .warmUpEnd => Sys2Proof.Machine.execWarmUpEnd s
  | .gapEnd => Sys2Proof.Machine.execGapEnd s
  | .settleEnd => Sys2Proof.Machine.execSettleEnd s
  | .sckRisingEdge si => Sys2Proof.Machine.execSckRisingEdge si s
  | .refclkPeriod lines keys => Sys2Proof.Machine.execRefclkPeriod lines keys s
  | .halfWaveEnd horn => Sys2Proof.Machine.execHalfWaveEnd horn s

end Sys2Proof.Machine
end

