-- ==== Sys2Proof/Safety.lean ====
section
/-! DEFINITION. What the spec says the part keeps at every event: one predicate per block, in the terms the statements use.
Each is a decidable proposition over one state. -/

namespace Sys2Proof.Machine

/-! ### Points -/

/-- The line that a source names. -/
def Source.lineNumber : Source → Option Nat
  | .line n => some n
  | .host => none

/-- The definition fields lie in the ranges of R2 and R3. -/
abbrev Definition.InRange (d : Definition) : Prop :=
  d.number < Config.pointSlots ∧ (∀ n ∈ d.source.lineNumber, n < Config.lineCount) ∧
  d.group ≤ Config.groupCount ∧ 1 ≤ d.priority ∧ d.priority ≤ 4 ∧
  1 ≤ d.cells.length ∧ d.cells.length ≤ 4 ∧ (∀ c ∈ d.cells, c < Config.cellCount) ∧ d.cells.Nodup

/-- Which return states a sequence type can hold (R26). -/
abbrev SequenceOk (p : Point) : Prop :=
  (p.defn.sequence ≠ .lock → p.state ≠ .hold) ∧ (p.defn.sequence ≠ .ringback → p.state ≠ .returned)

/-- While a point is not SHELVED, it is in ALERT or ACKED exactly when its condition is ABNORMAL (R27). -/
abbrev AgreesWithCondition (p : Point) : Prop :=
  p.state ≠ .shelved → ((p.state = .alert ∨ p.state = .acked) ↔ p.run.condition = .abnormal)

/-- A silenced flag is set only in ALERT, CLEARED or RETURN (R34). -/
abbrev SilencedOk (p : Point) : Prop :=
  p.run.silenced = true → p.state = .alert ∨ p.state = .cleared ∨ p.state = .returned

/-- The ageing fields (R88) and the condition of a HOST point (R7). -/
abbrev AgeingOk (p : Point) : Prop :=
  if p.defn.source = .host then
    p.run.age ≤ Config.staleAge ∧ (p.run.stale = true ↔ p.run.age = Config.staleAge) ∧
      p.run.condition = p.run.hostCondition
  else p.run.asserted = .normal ∧ p.run.age = 0 ∧ p.run.stale = false

/-- What every point record keeps (R2, R26, R27, R34, R88). -/
abbrev PointOk (p : Point) : Prop :=
  p.defn.InRange ∧ SequenceOk p ∧ AgreesWithCondition p ∧ SilencedOk p ∧ AgeingOk p

/-- One record per number, in ascending order of number (R1). -/
abbrev NumbersAscend (s : State) : Prop := (s.points.map Point.number).Pairwise (· < ·)

/-- The point table: one record per slot, each as the rules keep it. -/
abbrev TableOk (s : State) : Prop := NumbersAscend s ∧ ∀ p ∈ s.points, PointOk p

/-! ### Groups, shelf and change list -/

/-- The captured point of a group, present only while CAPTURED (R47). -/
def GroupState.capturedPoint : GroupState → Option Nat
  | .captured n => some n
  | .armed => none
  | .disabled => none

/-- Eight group records; a group that is not enabled is DISABLED and the other way round; the captured point is Defined, a
member and not SHELVED (R47, R48). -/
abbrev GroupsOk (s : State) : Prop :=
  s.groups.map Group.number = [1, 2, 3, 4, 5, 6, 7, 8] ∧
  ∀ G ∈ s.groups,
    (G.state = .disabled ↔ G.enabled = false) ∧
    ∀ n ∈ G.state.capturedPoint, ∃ p ∈ s.points, p.number = n ∧ p.group = G.number ∧ p.state ≠ .shelved

/-- A point is SHELVED exactly when it has an entry; at most 16 entries, one for each point, in non-decreasing order of
remaining, each 1 to 240 (R101, R102). -/
abbrev ShelfOk (s : State) : Prop :=
  s.shelf.length ≤ Config.shelfEntries ∧
  (s.shelf.map ShelfEntry.point).Nodup ∧
  (s.shelf.map ShelfEntry.remaining).Pairwise (· ≤ ·) ∧
  (∀ e ∈ s.shelf, 1 ≤ e.remaining ∧ e.remaining ≤ Config.maxMinutes) ∧
  (∀ e ∈ s.shelf, ∃ p ∈ s.points, p.number = e.point ∧ p.state = .shelved) ∧
  (∀ p ∈ s.points, p.state = .shelved → ∃ e ∈ s.shelf, e.point = p.number)

/-- The change list holds defined points only, each once (R170). -/
abbrev ChangesOk (s : State) : Prop :=
  (s.changes.map ChangeEntry.point).Nodup ∧ ∀ e ∈ s.changes, ∃ p ∈ s.points, p.number = e.point

/-- Throughout SETTLING every defined point has its initial runtime, the shelf and the change list are empty, no group holds a
captured point, and the lease timer and the minute counter stand at 0 (R195, R197). -/
abbrev SettlingOk (s : State) : Prop :=
  isReady s = false →
    (∀ p ∈ s.points, p.run = .initial) ∧ s.shelf = [] ∧ s.changes = [] ∧
    (∀ G ∈ s.groups, G.state.capturedPoint = none) ∧
    s.time.leaseCount = 0 ∧ s.time.minuteCount = 0

/-! ### Lines and keys -/

/-- A line record lies in the ranges of R65; a DISABLED line has filtered state NORMAL and run count 0 (R77, R78). -/
abbrev LineOk (L : Line) : Prop :=
  1 ≤ L.filter ∧ L.filter ≤ 15 ∧ L.runCount < L.filter ∧ L.transitions ≤ Config.maxTransitions ∧
  (L.chatterLimit = 0 ∨ (2 ≤ L.chatterLimit ∧ L.chatterLimit ≤ 15)) ∧
  (L.mode = .chatter → L.chatterLimit ≠ 0) ∧
  (L.mode = .disabled → L.filtered = .normal ∧ L.runCount = 0)

/-- The 24 line records. -/
abbrev LinesOk (s : State) : Prop :=
  s.lines.map Line.number = List.range Config.lineCount ∧ ∀ L ∈ s.lines, LineOk L

/-- A key's run count stays below the length of its filter (R81), and TEST raises no key action (R85). -/
abbrev KeysOk (s : State) : Prop :=
  s.keys.ack.runCount < Config.keyFilter ∧ s.keys.silence.runCount < Config.keyFilter ∧
  s.keys.clear.runCount < Config.keyFilter ∧ s.keys.test.runCount < Config.keyFilter ∧ s.keys.test.due = false

/-! ### Display, outputs, port and timebase -/

/-- The warm-up count, present only while WARMING (R129). -/
def Drive.count : Drive → Option Nat
  | .warming n => some n
  | .off => none
  | .active => none

/-- The settle count, present only while SETTLING (R197). -/
def Device.count : Device → Option Nat
  | .settling n => some n
  | .ready => none

/-- The transaction in progress (R158). -/
def Port.transaction : Port → Option Transaction
  | .active t => some t
  | .idle => none
  | .ignoring => none

/-- The command that the bytes shifted in so far take, when they take one (R160). -/
def takenBy : Frame → Option Instr
  | .command i => some i
  | .incomplete => none

/-- The commons values are 1 to 4 (R130); the drive has an image of 160 cells exactly while it is ACTIVE (R132). -/
abbrev DisplayOk (s : State) : Prop :=
  1 ≤ s.display.commons ∧ s.display.commons ≤ 4 ∧ 1 ≤ s.display.commonsPending ∧ s.display.commonsPending ≤ 4 ∧
  (s.display.image.isSome = true ↔ s.display.drive = .active) ∧
  (∀ image ∈ s.display.image, image.length = Config.cellCount) ∧
  ∀ n ∈ s.display.drive.count, n ≤ Config.warmUpLength

/-- A horn's tone numbers are 1 to 63 (R146), and its wave is at rest unless it sounds (R145). -/
abbrev HornOk (s : State) (h : HornId) : Prop :=
  1 ≤ (s.output.horn h).tone ∧ (s.output.horn h).tone ≤ 63 ∧
  (∀ n ∈ (s.output.horn h).tonePending, 1 ≤ n ∧ n ≤ 63) ∧
  (sounding s h = false → (s.output.horn h).wave = .rest)

/-- The output unit (R145, R146, R152). -/
abbrev OutputOk (s : State) : Prop :=
  HornOk s .horn1 ∧ HornOk s .horn2 ∧ ∀ n ∈ s.output.gap, n ≤ Config.gapLength

/-- The port holds a transaction only while RSTN is high and CS is low (R158, R178); an edge count is below 8; before the
taking the bytes received take no command yet, and one position is complete for each of them. -/
abbrev PortOk (s : State) : Prop :=
  (s.port = .idle ↔ s.cs = true ∨ s.rstn = false) ∧
  ∀ t ∈ s.port.transaction,
    t.edges < 8 ∧
    (t.reply = none → decodeFrame t.received = .incomplete ∧ t.positions = t.received.length) ∧
    (t.reply.isSome = true → t.received.length ≤ t.positions)

/-- An entry is in flight only while a READ-CHANGES is in progress (R170), and at most 16 are (R172). -/
abbrev InFlightOk (s : State) : Prop :=
  (s.changes.countP fun e => e.inFlight) ≤ Config.maxRead ∧
  ((∃ e ∈ s.changes, e.inFlight = true) →
    ∃ t ∈ s.port.transaction, t.received.length = 2 ∧ t.received.head? = some 0x02 ∧ t.reply.isSome = true)

/-- The counts of the timebase lie in their ranges, the end of a range standing for an expiry that is due (R190 to R197,
R93, R108, log 9); a frame boundary is taken ahead only in the period before its tick (R134, log 22). -/
abbrev TimeOk (s : State) : Prop :=
  s.time.prescaler < Config.prescale ∧ s.time.cycle < Config.cycleLength ∧
  s.time.chatterCount ≤ Config.chatterWindow ∧ s.time.leaseInterval ≤ 255 ∧
  s.time.leaseCount ≤ s.time.leaseInterval * Config.leaseUnit ∧ s.time.minuteCount ≤ Config.minuteLength ∧
  (∀ n ∈ s.time.device.count, n ≤ Config.settleLength) ∧
  (s.time.frameAhead = true → s.time.prescaler = 31 ∧ (s.time.cycle + 1) % 16 = 0)

/-- The point table, the groups, the shelf and the change list together: they name each other's points. -/
abbrev PanelOk (s : State) : Prop := TableOk s ∧ GroupsOk s ∧ ShelfOk s ∧ ChangesOk s

/-- A horn that does not sound holds its wave at rest (R145): what every event leaves. -/
abbrev WavesOk (s : State) : Prop :=
  (sounding s .horn1 = false → s.output.horn1.wave = .rest) ∧ (sounding s .horn2 = false → s.output.horn2.wave = .rest)

/-- While RSTN is low every block holds its reset values (R198). -/
abbrev HeldInReset (s : State) : Prop :=
  s.rstn = false → s = { State.reset with rstn := false, cs := s.cs, pending := s.pending }

/-! ### What an event and a command do, in the rules' own terms -/

/-- The part is READY and its port can receive a command (R158, R197). -/
abbrev Receptive (s : State) : Prop := PortOpen s ∧ isReady s = true

/-- The state that differs from `s` by its answer alone: the transaction holds the command's bytes, a status and results. -/
def answered (s : State) (bytes : List Byte) (st : Status) (results : List Byte) : State :=
  s.withPort (replied bytes (st.code :: results))

/-- After an event a sounding horn goes on and one that does not sound is at rest; nothing else of the horns changes (R145). -/
abbrev WavesFollow (s t : State) : Prop :=
  t.output.horn1 = (if sounding t .horn1 then s.output.horn1 else s.output.horn1.atRest) ∧
  t.output.horn2 = (if sounding t .horn2 then s.output.horn2 else s.output.horn2.atRest) ∧
  t.output.retrigger = s.output.retrigger

/-- The point enters ALERT (R32). -/
abbrev EntersAlert (f : Point → Point) (p : Point) : Prop := p.state ≠ .alert ∧ (f p).state = .alert

/-- The point offers itself to the group (R49). -/
abbrev Offers (f : Point → Point) (G : Group) (p : Point) : Prop := EntersAlert f p ∧ (f p).group = G.number

/-- The AUTO rule releases the group at the end of the event (R54). -/
abbrev AutoReleases (s : State) (f : Point → Point) (G : Group) : Prop :=
  G.release = .auto ∧ (∃ p ∈ s.points, (f p).group = G.number ∧ (f p).state ≠ p.state) ∧
  ∀ p ∈ s.points, (f p).group = G.number → (f p).state = .normal ∨ (f p).state = .shelved

/-- What an event leaves of one group record: DISABLED drops offers; ARMED captures the lowest offer; CAPTURED is released when
that is asked or by the AUTO rule, and keeps its point otherwise (R48, R50, R52, R53, R54). -/
abbrev GroupStep (s : State) (f : Point → Point) (asked : Group → Prop) (G G' : Group) : Prop :=
  G'.number = G.number ∧ G'.enabled = G.enabled ∧ G'.release = G.release ∧
  (G.state = .disabled → G'.state = .disabled) ∧
  (G.state = .armed →
    ((∃ p ∈ s.points, Offers f G p) →
      ∃ q ∈ s.points, Offers f G q ∧ (∀ r ∈ s.points, Offers f G r → q.number ≤ r.number) ∧
        G'.state = .captured q.number) ∧
    ((∀ p ∈ s.points, ¬ Offers f G p) → G'.state = .armed)) ∧
  (∀ n ∈ G.state.capturedPoint,
    (asked G ∨ AutoReleases s f G → G'.state = .armed) ∧ (¬ (asked G ∨ AutoReleases s f G) → G'.state = .captured n))

/-- Point `n` is posted: its state, its stale flag or its first-out mark changed (R33). -/
abbrev Posted (s t : State) (f : Point → Point) (n : Nat) : Prop :=
  ∃ p ∈ s.points, p.number = n ∧
    ((f p).state ≠ p.state ∨ (f p).run.stale ≠ p.run.stale ∨ firstOut t.groups (f p) ≠ firstOut s.groups p)

/-- The change list after the posts of an event: an entry keeps its place and a posted one loses its in-flight mark; the
posted points without an entry are appended, unmarked, in the order of `order` (R171). -/
abbrev ChangesFollow (s t : State) (f : Point → Point) (order : List Nat) : Prop :=
  t.changes =
    (s.changes.map fun e => if Posted s t f e.point then { e with inFlight := false } else e) ++
      (order.filter fun n => Posted s t f n ∧ n ∉ s.changes.map ChangeEntry.point).map fun n =>
        { point := n, inFlight := false }

/-- The re-trigger events of an event, judged on CMN and the gap as they stood before it (R151). -/
abbrev GapFollows (s t : State) (f : Point → Point) : Prop :=
  t.output.gap =
    if (∃ p ∈ s.points, EntersAlert f p) ∧ s.output.retrigger = true ∧ (cmn s = true ∨ s.output.gap ≠ none) then some 0
    else s.output.gap

/-- One event of the point table taken whole, from `s` to `t`: `f` is what it does to each point, `asked` the groups whose
release it asks for, `order` the order in which newly posted points join the change list (R5, R31 to R33, R50 to R54, R151). -/
abbrev EventEffect (s t : State) (f : Point → Point) (asked : Group → Prop) (order : List Nat) : Prop :=
  t.points = s.points.map f ∧
  t.groups.length = s.groups.length ∧ (∀ x ∈ s.groups.zip t.groups, GroupStep s f asked x.1 x.2) ∧
  ChangesFollow s t f order ∧ GapFollows s t f ∧ WavesFollow s t

/-- The numbers of the defined points, in the order of the table, which is ascending (R1, R171). -/
abbrev definedNumbers (s : State) : List Nat := s.points.map Point.number

/-- The scope operand covers the point (R35). -/
abbrev Covers (scope : Byte) (p : Point) : Prop :=
  (scope.toNat ≤ 0x3F ∧ p.number = scope.toNat) ∨
  (0x81 ≤ scope.toNat ∧ scope.toNat ≤ 0x88 ∧ p.group = scope.toNat - 0x80) ∨ scope = 0xFF

/-- The scope operand is one of those that R35 lists, and a point scope names a Defined slot. -/
abbrev ScopeAccepted (s : State) (scope : Byte) : Prop :=
  (scope.toNat ≤ 0x3F ∧ (pointAt s scope.toNat).isSome = true) ∨ (0x81 ≤ scope.toNat ∧ scope.toNat ≤ 0x88) ∨ scope = 0xFF

/-- Every field of a definition block but its number is in range (R10 step 3, R182). -/
abbrev BlockInRange (b : DefBlock) : Prop :=
  (b.source.toNat ≤ 0x17 ∨ b.source = 0x80) ∧ b.sequence.toNat ≤ 2 ∧ b.group.toNat ≤ 8 ∧
  b.attrs.toNat / 8 % 8 = 0 ∧ 1 ≤ b.attrs.toNat % 8 ∧ b.attrs.toNat % 8 ≤ 4 ∧
  1 ≤ b.cellCount.toNat ∧ b.cellCount.toNat ≤ 4 ∧ (∀ c ∈ b.cells, c.toNat ≤ 159) ∧ b.cells.Nodup

/-- The definition that an accepted block writes (R2, R182). -/
def definitionWritten (b : DefBlock) : Definition :=
  { number := b.number.toNat
    source := if b.source = 0x80 then .host else .line b.source.toNat
    sequence := if b.sequence = 0x00 then .auto else if b.sequence = 0x01 then .lock else .ringback
    group := b.group.toNat
    priority := b.attrs.toNat % 8
    audible := 128 ≤ b.attrs.toNat
    shelvable := 64 ≤ b.attrs.toNat % 128
    cells := b.cells.map BitVec.toNat }

/-- Nothing is due on the current tick: every expiry, batch, key action, boundary and end has been taken (log 2, log 9). -/
abbrev NothingDue (s : State) : Prop :=
  chatterDue s = false ∧ (isReady s = true → batchOf s.lines = []) ∧
  s.keys.ack.due = false ∧ s.keys.silence.due = false ∧ s.keys.clear.due = false ∧
  leaseDue s = false ∧ minuteDue s = false ∧ settleDue s = false ∧ gapDue s = false ∧ warmUpDue s = false ∧
  s.time.wrapDue = false ∧ s.time.frameDue = false ∧ halfWaveDue s .horn1 = false ∧ halfWaveDue s .horn2 = false

/-- The eight SCK edges of each byte, most significant bit first (R158). -/
def clocked (bytes : List Byte) : List Instr :=
  bytes.flatMap fun b => (List.range 8).map fun k => .sckRisingEdge (b.getLsbD (7 - k))

/-! ### One point, as the tables of 02 and 05 move it -/

/-- The point in state `st`; a change of state clears the silenced flag, and an arrival that changes nothing keeps it
(R24, R31). -/
def Point.movesTo (p : Point) (st : PointState) : Point :=
  if p.state = st then p else { p with run := { p.run with state := st, silenced := false } }

/-- ACK by the table of R25. -/
def afterAck (p : Point) : Point :=
  p.movesTo
    (match p.state, p.defn.sequence with
    | .alert, _ => .acked
    | .cleared, .auto => .normal
    | .cleared, .lock => .hold
    | .cleared, .ringback => .returned
    | st, _ => st)

/-- CLR by the table of R25. -/
def afterClr (p : Point) : Point :=
  p.movesTo
    (match p.state, p.defn.sequence with
    | .hold, .lock => .normal
    | .returned, .ringback => .normal
    | st, _ => st)

/-- ABN by the table of R25. -/
def afterAbn (p : Point) : Point :=
  p.movesTo
    (match p.state, p.defn.sequence with
    | .normal, _ => .alert
    | .cleared, _ => .alert
    | .hold, .lock => .alert
    | .returned, .ringback => .alert
    | st, _ => st)

/-- NRM by the table of R25. -/
def afterNrm (p : Point) : Point :=
  p.movesTo
    (match p.state, p.defn.sequence with
    | .alert, _ => .cleared
    | .acked, .auto => .normal
    | .acked, .lock => .hold
    | .acked, .ringback => .returned
    | st, _ => st)

/-- SHELVE (R28). -/
def afterShelve (p : Point) : Point := p.movesTo .shelved

/-- UNSHELVE, which reaches SHELVED points only (R30). -/
def afterUnshelve (p : Point) : Point :=
  if p.state = .shelved then p.movesTo (if p.run.condition = .abnormal then .alert else .normal) else p

/-- The point with a new condition, and ABN or NRM when it changed (R8). -/
def afterCondition (c : Condition) (p : Point) : Point :=
  if p.run.condition = c then p
  else
    match c with
    | .abnormal => afterAbn { p with run := { p.run with condition := c } }
    | .normal => afterNrm { p with run := { p.run with condition := c } }

/-- A HOST point with new ageing fields, its condition re-derived once: ABNORMAL while stale, the asserted value otherwise
(R7, R89). -/
def afterAgeing (asserted : Condition) (age : Nat) (stale : Bool) (p : Point) : Point :=
  afterCondition (if stale then .abnormal else asserted)
    { p with run := { p.run with asserted := asserted, age := age, stale := stale } }

/-- A refresh: HOST points go to age 0 and not stale, the asserted value kept; LINE points stay as they are (R92). -/
def afterRefresh (p : Point) : Point := if p.defn.source = .host then afterAgeing p.run.asserted 0 false p else p

/-- A lease expiry: a HOST point below age 3 ages by one, and is stale at 3 (R95). -/
def afterLeaseExpiry (p : Point) : Point :=
  if p.defn.source = .host ∧ p.run.age < 3 then
    afterAgeing p.run.asserted (p.run.age + 1) (decide (p.run.age = 2)) p
  else p

/-- A LINE point takes its line's current qualified state; a HOST point is not touched (R6, R200). -/
def afterLineState (s : State) (p : Point) : Point :=
  match p.defn.source with
  | .line n => afterCondition (qualifiedAt s n) p
  | .host => p

/-- The condition that a source gives a point at its definition: the line's state as last delivered, or NORMAL (R6, R7; while a
batch is still to be taken this is the old state of R12 and R16, log 20). -/
def definedCondition (s : State) : Source → Condition
  | .line n => (lineAt s n).handed
  | .host => .normal

/-- The runtime values of R4 and R22. -/
def newRuntime : Runtime :=
  { state := .normal, condition := .normal, asserted := .normal, age := 0, stale := false, silenced := false }

/-! ### Events, answers and result bytes -/

/-- No group is asked to release. -/
abbrev nobody (_ : Group) : Prop := False

/-- From `s` to `t` one event of the point table happens and nothing else: the points, the groups, the change list and the
output unit follow `EventEffect`, every other part is kept. -/
abbrev PanelEvent (s t : State) (f : Point → Point) (asked : Group → Prop) (order : List Nat) : Prop :=
  t = { s with points := t.points, groups := t.groups, changes := t.changes, output := t.output } ∧
    EventEffect s t f asked order

/-- The change list after a post of one point (R171). -/
def afterPost (n : Nat) (es : List ChangeEntry) : List ChangeEntry :=
  if n ∈ es.map ChangeEntry.point then es.map fun e => if e.point = n then { e with inFlight := false } else e
  else es ++ [{ point := n, inFlight := false }]

/-- The change list after the posts of a release: that of the group's captured point, when it has one (R53). -/
def afterReleasePost (G : Group) (es : List ChangeEntry) : List ChangeEntry :=
  match G.state.capturedPoint with
  | some n => afterPost n es
  | none => es

/-- Bits `lo` to `lo + width - 1` of a byte as a number (R180). -/
def field (b : Byte) (lo width : Nat) : Nat := b.toNat / 2 ^ lo % 2 ^ width

/-- Byte `k` of a result, counted from 1 as the formats of 9.6 count. -/
def resultByte (r : List Byte) (k : Nat) : Byte := r.getD (k - 1) 0

/-- Bit `j` of byte `k` of a result says whether `p` holds. -/
abbrev BitSays (r : List Byte) (k j : Nat) (p : Prop) : Prop := (resultByte r k).getLsbD j = true ↔ p

/-- The code of a drive state (R185, R188). -/
abbrev ShowsDrive (d : Drive) (x : Nat) : Prop :=
  (d = .off → x = 0) ∧ (d.count.isSome = true → x = 1) ∧ (d = .active → x = 2)

/-- The code of an annunciation state (R4, R23). -/
def stateCode : PointState → Nat
  | .normal => 0
  | .alert => 1
  | .acked => 2
  | .cleared => 3
  | .returned => 4
  | .hold => 5
  | .shelved => 6

/-- The point is in ALERT or CLEARED. -/
abbrev Unacknowledged (p : Point) : Prop := p.state = .alert ∨ p.state = .cleared

/-- The point is the captured point of the group its group field names (R48). -/
abbrev Marked (s : State) (p : Point) : Prop := ∃ G ∈ s.groups, G.number = p.group ∧ G.state = .captured p.number

/-- The key test claim (R85). -/
abbrev KeyTestClaim (s : State) : Prop :=
  s.keys.test.filtered = .pressed ∧ s.keys.test.enable = true ∧ isReady s = true

/-- Test is active while either claim is (R125). -/
abbrev TestActive (s : State) : Prop := s.display.commandTest = true ∨ KeyTestClaim s

/-- A sticky flag is set (R177). -/
abbrev SomeFlag (f : StickyFlags) : Prop :=
  f.truncated.isSet = true ∨ f.unknown.isSet = true ∨ f.staleSeen.isSet = true ∨ f.chatterSeen.isSet = true

/-- The condition under which IRQ is asserted (R177). -/
abbrev IrqAsserted (s : State) : Prop :=
  (s.notify.changes = true ∧ s.changes ≠ []) ∨ (s.notify.errors = true ∧ SomeFlag s.flags)

/-- alarm-present (R150). -/
abbrev AlarmPresent (s : State) : Prop := ∃ p ∈ s.points, Unacknowledged p

/-- A flag reported set is marked reported (R168). -/
def reportedFlag (f : StickyFlag) : StickyFlag := { isSet := f.isSet, reported := f.isSet }

/-- A flag at the CS rise of a READ-STATUS: cleared when position 3 is complete and it still holds its mark; the mark goes
(R169). -/
def flagAfterRead (complete : Bool) (f : StickyFlag) : StickyFlag :=
  { isSet := if complete = true ∧ f.reported = true then false else f.isSet, reported := false }

/-! ### The display, in the tables of R61, R119 and R121 -/

/-- The contribution of a state with and without the mark, as a pattern code (R61, R119). -/
def contributionCode : PointState → Bool → Nat
  | .normal, false => 0
  | .normal, true => 2
  | .alert, false => 4
  | .alert, true => 5
  | .cleared, false => 4
  | .cleared, true => 5
  | .acked, false => 1
  | .acked, true => 2
  | .hold, false => 1
  | .hold, true => 2
  | .returned, _ => 3
  | .shelved, _ => 0

/-- The pattern code of highest rank among the binders of a cell, 0 without binders (R118, R119). -/
def resolvedCode (s : State) (cell : Nat) : Nat :=
  ((s.points.filter fun p => decide (cell ∈ p.defn.cells)).map fun p => contributionCode p.state (decide (Marked s p))).foldr
    max 0

/-- The slots of 128 ticks in which a pattern is lit, by its code (R121). -/
def litSlots : Nat → List Nat
  | 1 => List.range 16
  | 2 => [0, 1, 2, 3, 4, 5, 6, 8, 9, 10, 11, 12, 13, 14]
  | 3 => [0, 1, 2, 3, 4, 5, 6, 7]
  | 4 => [0, 1, 4, 5, 8, 9, 12, 13]
  | 5 => [0, 2, 8, 10]
  | _ => []

/-- lit-now at the present counter value, by the four cases of R126. -/
abbrev LitNow (s : State) (cell : Nat) : Prop :=
  TestActive s ∨
    (resolvedCode s cell ≠ 0 ∧ ¬ (s.display.quiet = true ∧ (resolvedCode s cell = 1 ∨ resolvedCode s cell = 2)) ∧
      s.time.cycle / 128 ∈ litSlots (resolvedCode s cell))

/-- A cell is shown (R131). -/
abbrev Shown (s : State) (cell : Nat) : Prop := s.display.drive = .active ∧ cell / 40 < s.display.commons

/-- The frame image of the present moment (R132). -/
abbrev ImageShows (s : State) (image : List Bool) : Prop :=
  image.length = 160 ∧ ∀ cell ∈ List.range 160, image.getD cell false = true ↔ Shown s cell ∧ LitNow s cell

/-! ### The horns, in the tables of R141 and R144 -/

/-- A requesting point of a horn (R141). -/
abbrev Requests (h : HornId) (p : Point) : Prop :=
  p.defn.audible = true ∧ p.run.silenced = false ∧ (if h = .horn1 then Unacknowledged p else p.state = .returned)

/-- The priority governs the horn: the lowest among its requesting points, 0 without any (R143). -/
abbrev Governs (s : State) (h : HornId) (n : Nat) : Prop :=
  ((∀ p ∈ s.points, ¬ Requests h p) → n = 0) ∧
  ((∃ p ∈ s.points, Requests h p) →
    (∃ p ∈ s.points, Requests h p ∧ p.defn.priority = n) ∧ ∀ p ∈ s.points, Requests h p → n ≤ p.defn.priority)

/-- The slots of 256 ticks in which a priority's pattern is on (R144). -/
def onSlots : Nat → List Nat
  | 1 => [0, 1, 2, 3, 4, 5, 6, 7]
  | 2 => [0, 1, 4, 5]
  | 3 => [0, 4]
  | 4 => [0]
  | _ => []

/-- The horn sounds (R145). -/
abbrev Sounds (s : State) (h : HornId) : Prop :=
  (s.output.horn h).enable = true ∧
    ∃ p ∈ s.points, Requests h p ∧ (∀ q ∈ s.points, Requests h q → p.defn.priority ≤ q.defn.priority) ∧
      s.time.cycle / 256 ∈ onSlots p.defn.priority

/-! ### The input unit, in the tables of R67 to R70, R72 and R82 -/

/-- A line takes the level of its pin (R68 to R70). -/
abbrev LineSampled (high : Bool) (L L' : Line) : Prop :=
  let level : Level := if high then .high else .low
  let sample : Condition := if level = L.normalLevel then .normal else .abnormal
  let count := min 15 (L.transitions + 1)
  (L.mode = .disabled → L' = { L with raw := level }) ∧
  (L.mode ≠ .disabled →
    (sample = L.filtered → L' = { L with raw := level, runCount := 0 }) ∧
    (sample ≠ L.filtered → L.runCount + 1 < L.filter → L' = { L with raw := level, runCount := L.runCount + 1 }) ∧
    (sample ≠ L.filtered → L.filter ≤ L.runCount + 1 →
      L' = { L with
        raw := level, filtered := sample, runCount := 0, transitions := count, flipped := true
        mode := if L.mode = .chatter ∨ (L.chatterLimit ≠ 0 ∧ L.chatterLimit ≤ count) then .chatter else .tracking }))

/-- A key takes the level of its pin, active low; its twentieth disagreeing sample changes the filtered state, and a qualified
press raises a key action where `acts` says so (R82, R83). -/
abbrev KeySampled (high acts : Bool) (K K' : KeyRecord) : Prop :=
  let sample : KeyState := if high then .released else .pressed
  (sample = K.filtered → K' = { K with runCount := 0 }) ∧
  (sample ≠ K.filtered → K.runCount < 19 → K' = { K with runCount := K.runCount + 1 }) ∧
  (sample ≠ K.filtered → K.runCount = 19 →
    K' = { K with
      filtered := sample, runCount := 0
      due := if sample = .pressed ∧ acts = true ∧ K.enable = true then true else K.due })

/-- The line's enable (R65). -/
abbrev Enabled (L : Line) : Prop := L.mode ≠ .disabled

/-- What an accepted CONFIGURE-INPUT makes of its line: re-initialised when its enable or its normal level differs, retuned
otherwise (R77, R78). -/
def configuredLine (enable : Bool) (normalLevel : Level) (filter limit : Nat) (L : Line) : Line :=
  if (enable = true ↔ Enabled L) ∧ normalLevel = L.normalLevel then
    { L with
      filter := filter, chatterLimit := limit
      runCount := if filter = L.filter then L.runCount else 0
      mode := if limit = 0 ∧ L.mode = .chatter then .tracking else L.mode }
  else
    { L with
      normalLevel := normalLevel, filter := filter, chatterLimit := limit
      filtered := .normal, runCount := 0, transitions := 0, flipped := false
      mode := if enable then .tracking else .disabled }

/-- The line at a chatter-window expiry (R72). -/
def afterWindow (L : Line) : Line :=
  { L with mode := if L.mode = .chatter ∧ L.flipped = false then .tracking else L.mode, transitions := 0, flipped := false }

/-- The qualified state of a line by the table of R67. -/
def qualifiedByMode (L : Line) : Condition :=
  if L.mode = .disabled then .normal else if L.mode = .chatter then .abnormal else L.filtered

/-- A point at a condition batch: a LINE point whose line differs from the state last handed over takes its qualified state
(R9, R73). -/
def afterBatch (ls : List Line) (p : Point) : Point :=
  match p.defn.source with
  | .host => p
  | .line n =>
    match ls.find? fun L => L.number == n && qualifiedByMode L != L.handed with
    | some L => afterCondition (qualifiedByMode L) p
    | none => p

/-- Every line's qualified state is handed over (R73). -/
def allHanded (ls : List Line) : List Line := ls.map fun L => { L with handed := qualifiedByMode L }

/-- The keys with the key action of `k` taken off. -/
def keyTaken (k : ActionKey) (K : Keys) : Keys :=
  match k with
  | .ack => { K with ack := { K.ack with due := false } }
  | .silence => { K with silence := { K.silence with due := false } }
  | .clear => { K with clear := { K.clear with due := false } }

/-- The key record of a key that acts. -/
def actingKey (k : ActionKey) (K : Keys) : KeyRecord :=
  match k with
  | .ack => K.ack
  | .silence => K.silence
  | .clear => K.clear

/-- The command of the same name with scope 0xFF (R41). -/
def keyCommand : ActionKey → Instr
  | .ack => .acknowledge 0xFF
  | .silence => .silence 0xFF
  | .clear => .clear 0xFF

/-- The entry placed after every entry of at most its remaining and before the others (R101). -/
def placed (e : ShelfEntry) (es : List ShelfEntry) : List ShelfEntry :=
  (es.filter fun x => decide (x.remaining ≤ e.remaining)) ++ e :: es.filter fun x => decide (e.remaining < x.remaining)

/-- The groups that a CLEAR asks to release (R40). -/
abbrev ClearCovers (scope : Byte) (G : Group) : Prop :=
  scope = 0xFF ∨ (0x81 ≤ scope.toNat ∧ scope.toNat ≤ 0x88 ∧ G.number = scope.toNat - 0x80) ∨
  (scope.toNat ≤ 0x3F ∧ G.state = .captured scope.toNat)

/-- The scope operand is none of those that R35 lists. -/
abbrev ScopeUnlisted (scope : Byte) : Prop :=
  0x3F < scope.toNat ∧ ¬ (0x81 ≤ scope.toNat ∧ scope.toNat ≤ 0x88) ∧ scope ≠ 0xFF

/-- A point scope whose slot is Vacant (R35). -/
abbrev ScopeVacant (s : State) (scope : Byte) : Prop := scope.toNat ≤ 0x3F ∧ pointAt s scope.toNat = none

/-- A horn that sounds after an event keeps its wave; one that does not is at rest (R145). -/
def waveIn (t : State) (h : HornId) (w : Wave) : Wave := if sounding t h then w else { high := true, elapsed := 0 }

/-- No work of the input unit's is due on this tick: no chatter-window expiry, and no line whose qualified state has not been
handed over (R72, R73). -/
abbrev NoInputDue (s : State) : Prop := chatterDue s = false ∧ ∀ L ∈ s.lines, qualifiedByMode L = L.handed

end Sys2Proof.Machine
end

