-- ==== Sys2Proof/WellFormed.lean ====
section
/-! DEFINITION. Which terms of `Instr` are commands of the part: a definition block carries exactly the cell bytes that
its cell count asks for (R159), and an unknown code is a code outside the table of R181 (R163). -/

namespace Sys2Proof

/-- A definition block has the cell bytes that R159 gives for its cell count. -/
abbrev DefBlock.WellFormed (b : DefBlock) : Prop := b.cells.length = cellBytes b.cellCount

/-- A code is unknown when the command table does not hold it (R163). -/
abbrev UnknownCode (c : Byte) : Prop := arity c = none

/-- The term is a command of the part. -/
def wellFormed : Instr → Bool
  | .readStatus => true
  | .readChanges _ => true
  | .configureNotify _ _ => true
  | .echo _ => true
  | .restart => true
  | .resetDevice => true
  | .definePoint b => decide b.WellFormed
  | .modifyPoint b => decide b.WellFormed
  | .retirePoint _ => true
  | .readPoint _ => true
  | .readDefined => true
  | .assert _ _ => true
  | .refreshAll => true
  | .configureLease _ => true
  | .acknowledge _ => true
  | .silence _ => true
  | .clear _ => true
  | .shelve _ _ => true
  | .unshelve _ => true
  | .readShelf => true
  | .configureGroup _ _ _ => true
  | .releaseGroup _ => true
  | .readGroup _ => true
  | .configureInput _ _ _ _ _ => true
  | .readInputs => true
  | .configureKeys _ _ _ _ => true
  | .configureDisplay _ _ _ => true
  | .setOverride _ => true
  | .readCells _ _ => true
  | .configureHorn _ _ _ _ => true
  | .readOutputs => true
  | .unknownCommand c => decide (UnknownCode c)
  | .csFall => true
  | .csRise => true
  | .pinReset => true
  | .rstnRelease => true
  | .tick _ _ => true
  | .conditionBatch => true
  | .keyAction _ => true
  | .chatterWindowExpiry => true
  | .leaseExpiry => true
  | .minuteExpiry => true
  | .wrap => true
  | .frameBoundary => true
  | .warmUpEnd => true
  | .gapEnd => true
  | .settleEnd => true
  | .sckRisingEdge _ => true
  | .refclkPeriod _ _ => true
  | .halfWaveEnd _ => true

/-- The term is a command of the part, as a proposition. -/
abbrev Instr.WellFormed (i : Instr) : Prop := wellFormed i = true

end Sys2Proof
end

