-- ==== Sys2Proof/Certificates/Slice0/Obligations.lean ====
section
/-! DEFINITION. The statements about the model, for the provers. Each speaks in the vocabulary of Safety.lean, which says the
tables of the spec a second time and apart from the model's own functions. -/

open Sys2Proof Sys2Proof.Machine

/-! ### The step, the queue and reset -/

/-- One step is the front command executed with the queue's rest; an empty queue idles, which is the model's choice (log 8). -/
def Obligations.StepTakesFrontCommand : Prop :=
  ∀ (s : State) (i : Instr) (rest : List Instr),
    step { s with pending := i :: rest } = exec i { s with pending := rest } ∧
    step { s with pending := [] } = .next { s with pending := [] }

/-- The queue of commands plays no part in what a command does, and the command leaves it as it is (the model's queue, log 8). -/
def Obligations.QueuePlaysNoPart : Prop :=
  ∀ (i : Instr) (s t : State) (queue : List Instr),
    exec i s = .next t → t.pending = s.pending ∧ exec i { s with pending := queue } = .next { t with pending := queue }

/-- Every command of the part completes in every state; only a term that is no command is turned away (the model's choice,
log 17). -/
def Obligations.OnlyIllFormedTermsStop : Prop :=
  ∀ (i : Instr) (s : State),
    (i.WellFormed → ∃ t, exec i s = .next t) ∧ (¬ i.WellFormed → exec i s = .refused .illFormed)

/-- Pin reset puts every block at the values of R198 and keeps only the CS level and the queue; the release begins the settle
with those values (R199), and CS low then leaves a transaction that the port ignores (R178). A release of a pin that is high
changes nothing (log 1). The marks settleAhead and frameAhead and the wave at rest are the model's own (logs 10, 22 and 13). -/
def Obligations.PinResetAndRelease : Prop :=
  ∀ (s : State),
    (∃ t, exec .pinReset s = .next t ∧ t.rstn = false ∧ t.cs = s.cs ∧ t.pending = s.pending ∧
      t.points = [] ∧ t.shelf = [] ∧ t.changes = [] ∧ t.port = .idle ∧
      t.groups.map Group.number = [1, 2, 3, 4, 5, 6, 7, 8] ∧
      (∀ G ∈ t.groups, G.enabled = false ∧ G.release = .auto ∧ G.state = .disabled) ∧
      t.lines.map Line.number = List.range 24 ∧
      (∀ L ∈ t.lines, L.mode = .disabled ∧ L.normalLevel = .low ∧ L.filter = 8 ∧ L.chatterLimit = 0 ∧ L.filtered = .normal ∧
        L.runCount = 0 ∧ L.transitions = 0 ∧ L.flipped = false ∧ L.handed = .normal) ∧
      (∀ K ∈ [t.keys.ack, t.keys.silence, t.keys.clear, t.keys.test],
        K = { enable := true, filtered := .released, runCount := 0, due := false }) ∧
      t.display =
        { drive := .off, commons := 4, commonsPending := 4, quiet := false, commandTest := false, image := none } ∧
      (∀ h ∈ [HornId.horn1, HornId.horn2],
        t.output.horn h = { enable := false, tone := 31, tonePending := none, wave := { high := true, elapsed := 0 } }) ∧
      t.output.retrigger = true ∧ t.output.gap = none ∧
      anyFlag t.flags = false ∧ t.notify = { changes := false, errors := false } ∧
      t.time =
        { prescaler := 0, cycle := 0, chatterCount := 0, leaseInterval := 0, leaseCount := 0, minuteCount := 0,
          device := .settling 0, wrapDue := false, frameDue := false, settleAhead := false, frameAhead := false }) ∧
    (HeldInReset s → s.rstn = false →
      exec .rstnRelease s = .next { s with rstn := true, port := if s.cs then .idle else .ignoring }) ∧
    (s.rstn = true → exec .rstnRelease s = .next s)

/-- While RSTN is low every block keeps its reset values whatever is commanded, and every output is at rest; a command that
meets RSTN low and is not its release leaves it low (R198). Two parts of this are the model's own: the held values include the
raw level LOW of every line, to which R66 gives no reset value (log 7, a design choice), and that CS alone is followed while
RSTN is low and a second fall writes the same values is the model's reading (log 19, deduced). -/
def Obligations.HeldWhileRstnLow : Prop :=
  ∀ (i : Instr) (s t : State),
    HeldInReset s → exec i s = .next t →
      HeldInReset t ∧
      (s.rstn = false → i ≠ .rstnRelease →
        t.rstn = false ∧ so t = none ∧ irq t = false ∧ cmn t = false ∧ hornOutput t .horn1 = false ∧
          hornOutput t .horn2 = false ∧ ∀ cell, panelLit t cell = false)

/-! ### Invariants -/

/-- Every step keeps the point table, the groups, the shelf and the change list as R1 to R4, R26, R27, R34, R48, R88, R102 and
R170 say they are at every event. -/
def Obligations.StepKeepsPanel : Prop :=
  ∀ (s t : State), PanelOk s → step s = .next t → PanelOk t

/-- Every step keeps what the spec says of SETTLING: every point at its definition values, nothing shelved, listed or captured,
the lease timer and the minute counter at 0 (R195, R197). -/
def Obligations.StepKeepsSettling : Prop :=
  ∀ (s t : State), SettlingOk s → step s = .next t → SettlingOk t

/-- Every step keeps the line and key records in their ranges (R65, R77, R78, R81). -/
def Obligations.StepKeepsInputs : Prop :=
  ∀ (s t : State), LinesOk s ∧ KeysOk s → step s = .next t → LinesOk t ∧ KeysOk t

/-- Every step keeps the counts of the timebase in their ranges (R93, R108, R190 to R197; that an expiry that is due stands at the
end of its range is the model's reading, log 9); and the model's mark of a frame boundary taken ahead stands only in the period
before the tick of that boundary (log 22). -/
def Obligations.StepKeepsTimebase : Prop :=
  ∀ (s t : State), TimeOk s → step s = .next t → TimeOk t

/-- Every step keeps the display unit and the output unit: an image exactly while the drive is ACTIVE (R132), tones of 1 to 63
(R146), a warm-up count and a gap count in their ranges (R129, R152), and a horn that does not sound at rest (R145). Two parts
are the model's reading: a warm-up count of 64 and a gap count of 512 are an end that is due and not yet taken (log 9), and the
wave of a horn that does not sound is held at the start of a high half (log 13). -/
def Obligations.StepKeepsDisplayAndOutputs : Prop :=
  ∀ (s t : State), DisplayOk s ∧ OutputOk s → step s = .next t → DisplayOk t ∧ OutputOk t

/-- Every step keeps the port: a transaction only between CS falling and CS rising with RSTN high (R158, R178), no command
complete before its taking (R159), in-flight marks only while a READ-CHANGES is in progress and at most 16 (R170, R172). -/
def Obligations.StepKeepsPort : Prop :=
  ∀ (s t : State), PortOk s ∧ InFlightOk s → step s = .next t → PortOk t ∧ InFlightOk t

/-- The state after reset has every invariant. -/
def Obligations.InvariantsHoldAtReset : Prop :=
  PanelOk State.reset ∧ SettlingOk State.reset ∧ LinesOk State.reset ∧ KeysOk State.reset ∧ TimeOk State.reset ∧
  DisplayOk State.reset ∧ OutputOk State.reset ∧ PortOk State.reset ∧ InFlightOk State.reset ∧ HeldInReset State.reset

/-! ### The host port -/

/-- A command's row is its bytes clocked in: eight SCK edges for each byte, from the start of a transaction, lead step by step
to the very state that the command's row gives (R158 to R160; log 3). -/
def Obligations.ClockedBytesTakeCommand : Prop :=
  ∀ (i : Instr) (s : State) (bytes : List Byte) (rest : List Instr),
    i.WellFormed → hostBytes i = some bytes → PortOpen s →
      Host.Core.run core (8 * bytes.length) { s with pending := clocked bytes ++ rest } = exec i { s with pending := rest }

/-- The bytes shifted in read as exactly the command that has those bytes, and never before its last operand byte (R159, R163,
R181, R182). -/
def Obligations.FramesAndBytesAgree : Prop :=
  ∀ (i : Instr) (bytes : List Byte),
    (decodeFrame bytes = .command i → bytes.length ≤ 1 ∨ decodeFrame bytes.dropLast = .incomplete →
      i.WellFormed ∧ hostBytes i = some bytes) ∧
    (i.WellFormed → hostBytes i = some bytes →
      decodeFrame bytes = .command i ∧ ∀ n, n < bytes.length → decodeFrame (bytes.take n) = .incomplete)

/-- What gates a host command. While SETTLING every known command but READ-STATUS and RESET-DEVICE is taken with BUSY, whatever
its operands, and has no other effect (R164). A command that meets no transaction at its start has no effect at all (the
model's choice, logs 1 and 3). -/
def Obligations.HostCommandsGated : Prop :=
  ∀ (i : Instr) (s : State) (bytes : List Byte),
    i.WellFormed → hostBytes i = some bytes →
      (PortOpen s → WavesOk s → isReady s = false → i ≠ .readStatus → i ≠ .resetDevice →
        (∀ c, i ≠ .unknownCommand c) → exec i s = .next (answered s bytes .busy [])) ∧
      (¬ PortOpen s → exec i s = .next s)

/-- CS falling begins a transaction, or one that the port ignores while RSTN is low. Each SCK edge shifts one bit of SI in, the
eighth completes the position, the last operand position takes the command, and from the status position on SI is ignored
(R158 to R161, R178). With CS already low a fall changes nothing (log 1). -/
def Obligations.TransactionEdges : Prop :=
  ∀ (s : State) (si : Bool),
    (s.cs = true → exec .csFall s = .next { s with cs := false, port := if s.rstn then .active .fresh else .idle }) ∧
    (s.cs = false → exec .csFall s = .next s) ∧
    (s.rstn = false ∨ s.port.transaction = none → exec (.sckRisingEdge si) s = .next s) ∧
    ∀ x ∈ s.port.transaction, s.rstn = true →
      let bits : Byte := BitVec.ofNat 8 (2 * x.shift.toNat + si.toNat)
      (x.reply = none → x.edges < 7 →
        exec (.sckRisingEdge si) s = .next { s with port := .active { x with shift := bits, edges := x.edges + 1 } }) ∧
      (x.reply = none → 7 ≤ x.edges → decodeFrame (x.received ++ [bits]) = .incomplete →
        exec (.sckRisingEdge si) s =
          .next (s.withPort
            (.active
              { received := x.received ++ [bits], shift := 0, edges := 0, positions := x.positions + 1, reply := none }))) ∧
      (∀ i ∈ takenBy (decodeFrame (x.received ++ [bits])), x.reply = none → 7 ≤ x.edges →
        exec (.sckRisingEdge si) s = exec i { s with port := .active .fresh }) ∧
      (x.reply ≠ none → x.edges < 7 →
        exec (.sckRisingEdge si) s = .next { s with port := .active { x with edges := x.edges + 1 } }) ∧
      (x.reply ≠ none → 7 ≤ x.edges →
        exec (.sckRisingEdge si) s = .next { s with port := .active { x with edges := 0, positions := x.positions + 1 } })

/-- CS rising ends the transaction. One whose command was not taken sets TRUNCATED (R162); after READ-STATUS, READ-CHANGES and
RESET-DEVICE other statements say what follows; after every other command, a transaction that was ignored, or while RSTN is
low it only ends the transaction (R161, R178). With CS already high nothing changes (log 1). -/
def Obligations.CsRiseEndsTransaction : Prop :=
  ∀ (s : State),
    WavesOk s →
      (s.cs = true → exec .csRise s = .next s) ∧
      (s.cs = false → s.rstn = false ∨ s.port.transaction = none →
        exec .csRise s = .next { s with cs := true, port := .idle }) ∧
      ∀ x ∈ s.port.transaction, s.cs = false → s.rstn = true →
        (x.reply = none →
          exec .csRise s = .next
            { s with cs := true, port := .idle, flags := { s.flags with truncated := { isSet := true, reported := false } } }) ∧
        (x.reply ≠ none → x.received.head? ≠ some 0x01 → x.received.head? ≠ some 0x02 → x.received.head? ≠ some 0x09 →
          exec .csRise s = .next { s with cs := true, port := .idle })

/-- The CS rise of a READ-STATUS clears the flags that still hold their reported mark when position 3 is complete, clears none
when it is not, and discards every mark (R169). -/
def Obligations.CsRiseClearsReportedFlags : Prop :=
  ∀ (s : State),
    WavesOk s → s.rstn = true → s.cs = false →
      ∀ x ∈ s.port.transaction, x.received = [0x01] → x.reply ≠ none →
        exec .csRise s = .next
          { s with
            cs := true, port := .idle
            flags :=
              { truncated := flagAfterRead (decide (3 ≤ x.positions)) s.flags.truncated
                unknown := flagAfterRead (decide (3 ≤ x.positions)) s.flags.unknown
                staleSeen := flagAfterRead (decide (3 ≤ x.positions)) s.flags.staleSeen
                chatterSeen := flagAfterRead (decide (3 ≤ x.positions)) s.flags.chatterSeen } }

/-- The CS rise of a READ-CHANGES removes each entry that still holds its in-flight mark and whose two positions, 2i + 3 and
2i + 4 for entry i, are complete; the others stay in order, and every mark is discarded (R174; log 16). -/
def Obligations.CsRiseRemovesReadEntries : Prop :=
  ∀ (s : State),
    WavesOk s → s.rstn = true → s.cs = false →
      ∀ x ∈ s.port.transaction, x.received.head? = some 0x02 → x.received.length = 2 → x.reply ≠ none →
        exec .csRise s = .next
          { s with
            cs := true, port := .idle
            changes :=
              (s.changes.zipIdx.filter fun e => !(e.1.inFlight && decide (2 * (e.2 + 1) + 4 ≤ x.positions))).map fun e =>
                { point := e.1.point, inFlight := false } }

/-- RESET-DEVICE changes nothing at its taking, in either device state; the CS rise that ends its transaction puts the part at
its reset values and begins a settle (R178, R201). Of these values the raw level LOW of every line is the model's choice, since
R66 gives it none before the first tick (log 7). -/
def Obligations.ResetDevice : Prop :=
  ∀ (s : State),
    (PortOpen s → WavesOk s → exec .resetDevice s = .next (answered s [0x09] .ok [])) ∧
    ∀ x ∈ s.port.transaction, s.rstn = true → s.cs = false → x.received = [0x09] → x.reply ≠ none →
      exec .csRise s = .next { State.reset with pending := s.pending }

/-- READ-STATUS is taken in either device state; its six bytes are those of R185, and it marks the flags that it reports set
(R168). -/
def Obligations.ReadStatus : Prop :=
  ∀ (s : State),
    PortOpen s → WavesOk s → PanelOk s →
      ∃ r, exec .readStatus s =
          .next (answered
            { s with
              flags :=
                { truncated := reportedFlag s.flags.truncated, unknown := reportedFlag s.flags.unknown
                  staleSeen := reportedFlag s.flags.staleSeen, chatterSeen := reportedFlag s.flags.chatterSeen } }
            [0x01] .ok r) ∧
        r.length = 6 ∧
        BitSays r 1 7 (isReady s = true) ∧ field (resultByte r 1) 4 3 = 0 ∧
        BitSays r 1 3 (s.flags.chatterSeen.isSet = true) ∧ BitSays r 1 2 (s.flags.staleSeen.isSet = true) ∧
        BitSays r 1 1 (s.flags.unknown.isSet = true) ∧ BitSays r 1 0 (s.flags.truncated.isSet = true) ∧
        (resultByte r 2).toNat = s.changes.length ∧ (resultByte r 3).toNat = s.shelf.length ∧
        (resultByte r 4).toNat = (s.points.filter fun p => decide (Unacknowledged p)).length ∧
        field (resultByte r 5) 6 2 = 0 ∧ ShowsDrive s.display.drive (field (resultByte r 5) 4 2) ∧
        BitSays r 5 3 False ∧ BitSays r 5 2 (TestActive s) ∧
        BitSays r 5 1 (∃ L ∈ s.lines, L.mode = .chatter) ∧
        BitSays r 5 0 (∃ p ∈ s.points, p.defn.source = .host ∧ p.run.stale = true) ∧
        BitSays r 6 7 (IrqAsserted s) ∧ field (resultByte r 6) 2 5 = 0 ∧
        BitSays r 6 1 (s.notify.errors = true) ∧ BitSays r 6 0 (s.notify.changes = true)

/-- READ-CHANGES with a maximum of 1 to 16 reports the first c entries, c the smaller of the maximum and the list's length, in
the layout of R184, and marks them in-flight; any other maximum is BAD_ARGUMENT (R172, R173). -/
def Obligations.ReadChanges : Prop :=
  ∀ (s : State) (maximum : Byte),
    Receptive s → WavesOk s → PanelOk s →
      (maximum.toNat = 0 ∨ 16 < maximum.toNat →
        exec (.readChanges maximum) s = .next (answered s [0x02, maximum] .badArgument [])) ∧
      (1 ≤ maximum.toNat → maximum.toNat ≤ 16 →
        let c := min maximum.toNat s.changes.length
        ∃ r, exec (.readChanges maximum) s =
            .next (answered
              { s with
                changes := (s.changes.take c).map (fun e => { point := e.point, inFlight := true }) ++ s.changes.drop c }
              [0x02, maximum] .ok r) ∧
          r.length = 1 + 2 * c ∧ (resultByte r 1).toNat = c ∧
          ∀ k ∈ List.range c, ∀ e ∈ s.changes[k]?, ∀ p ∈ s.points, p.number = e.point →
            (resultByte r (2 * k + 2)).toNat = p.number ∧
            field (resultByte r (2 * k + 3)) 0 3 = stateCode p.state ∧
            BitSays r (2 * k + 3) 3 (Marked s p) ∧
            BitSays r (2 * k + 3) 4 (p.defn.source = .host ∧ p.run.stale = true) ∧
            BitSays r (2 * k + 3) 5 (p.run.condition = .abnormal) ∧
            field (resultByte r (2 * k + 3)) 6 2 = 0)

/-- ECHO returns its operand and the operand inverted, and has no effect; while SETTLING it returns BUSY (R166). -/
def Obligations.Echo : Prop :=
  ∀ (s : State) (value : Byte),
    PortOpen s → WavesOk s →
      (isReady s = true → exec (.echo value) s = .next (answered s [0x05, value] .ok [value, value ^^^ 0xFF])) ∧
      (isReady s = false → exec (.echo value) s = .next (answered s [0x05, value] .busy []))

/-- A code outside the command table sets UNKNOWN and answers UNKNOWN_COMMAND at its first position, in either device state,
and nothing else changes; the CS rise then ends the transaction without setting TRUNCATED (R163). -/
def Obligations.UnknownCommandCode : Prop :=
  ∀ (s : State) (code : Byte),
    UnknownCode code → PortOpen s → s.cs = false → WavesOk s →
      ∃ t, exec (.unknownCommand code) s = .next t ∧
        t = answered { s with flags := { s.flags with unknown := { isSet := true, reported := false } } } [code]
          .unknownCommand [] ∧
        exec .csRise t = .next { t with cs := true, port := .idle }

/-- CONFIGURE-NOTIFY writes both enables when both operands are two-valued and refuses otherwise; it is BUSY while SETTLING;
pin reset and the CS rise of a RESET-DEVICE set both to no, and RESTART keeps them (R176). -/
def Obligations.ConfigureNotify : Prop :=
  ∀ (s : State) (changes errors : Byte),
    PortOpen s → WavesOk s →
      (isReady s = true → changes.toNat ≤ 1 → errors.toNat ≤ 1 →
        exec (.configureNotify changes errors) s =
          .next (answered { s with notify := { changes := decide (changes = 0x01), errors := decide (errors = 0x01) } }
            [0x03, changes, errors] .ok [])) ∧
      (isReady s = true → 1 < changes.toNat ∨ 1 < errors.toNat →
        exec (.configureNotify changes errors) s = .next (answered s [0x03, changes, errors] .badArgument [])) ∧
      (isReady s = false →
        exec (.configureNotify changes errors) s = .next (answered s [0x03, changes, errors] .busy [])) ∧
      (∃ t, exec .pinReset s = .next t ∧ t.notify = { changes := false, errors := false }) ∧
      (∃ t, exec .resetDevice s = .next t ∧ t.notify = s.notify ∧
        (s.cs = false → ∃ u, exec .csRise t = .next u ∧ u.notify = { changes := false, errors := false })) ∧
      (∃ t, exec .restart s = .next t ∧ t.notify = s.notify)

/-- The output lines follow the state: IRQ (R177), CMN (R150), the horns (R145), COM and SEG, which carry the frame image while
the drive is ACTIVE and show every cell dark while it is OFF or WARMING (R128, R132, R140), and SO, which carries 0x00 during code
and operands, then the status and results, and is high impedance while CS is high or RSTN is low (R158, R159, R161, R178). The
bit of SO is the one that the next rising edge shifts out: the model's reading (log 15). -/
def Obligations.OutputLines : Prop :=
  ∀ (s : State),
    PanelOk s → TimeOk s → PortOk s → DisplayOk s →
      (irq s = true ↔ IrqAsserted s) ∧
      (cmn s = true ↔ AlarmPresent s ∧ s.output.gap = none) ∧
      (∀ h ∈ [HornId.horn1, HornId.horn2], hornOutput s h = true ↔ Sounds s h ∧ (s.output.horn h).wave.high = true) ∧
      (s.display.drive = .active →
        ∃ image ∈ s.display.image, image.length = 160 ∧ ∀ cell, panelLit s cell = true ↔ image[cell]? = some true) ∧
      (s.display.drive ≠ .active → ∀ cell, panelLit s cell = false) ∧
      (s.cs = true ∨ s.rstn = false → so s = none) ∧
      ∀ x ∈ s.port.transaction,
        (x.reply = none → so s = some false) ∧
        ∀ reply ∈ x.reply, so s = some ((reply.getD (x.positions - x.received.length) 0).getLsbD (7 - x.edges))

/-! ### Points -/

/-- DEFINE-POINT checks in the order of R10; accepted, it adds the record in one event, with the condition that its source
gives and the ALERT entry, offer, post and re-trigger event that an ABNORMAL one brings (R11, R12). The condition of a line is
the state last delivered for it, the old one while a batch is still to be taken: the model's reading of R6 and R12 (log 20).
A horn that sounds before and after the event goes on with its wave: the model's choice (log 13). -/
def Obligations.DefinePoint : Prop :=
  ∀ (s : State) (b : DefBlock),
    Receptive s → WavesOk s → PanelOk s → b.WellFormed →
      let n := b.number.toNat
      let d := definitionWritten b
      let u : State :=
        { s with
          points :=
            (s.points.filter fun p => decide (p.number < n)) ++
              { defn := d, run := newRuntime } :: s.points.filter fun p => decide (n < p.number) }
      (63 < n → exec (.definePoint b) s = .next (answered s (0x10 :: blockBytes b) .badArgument [])) ∧
      (n ≤ 63 → pointAt s n ≠ none → exec (.definePoint b) s = .next (answered s (0x10 :: blockBytes b) .occupied [])) ∧
      (n ≤ 63 → pointAt s n = none → ¬ BlockInRange b →
        exec (.definePoint b) s = .next (answered s (0x10 :: blockBytes b) .badArgument [])) ∧
      (n ≤ 63 → pointAt s n = none → BlockInRange b →
        ∃ t, exec (.definePoint b) s = .next t ∧
          PanelEvent (answered u (0x10 :: blockBytes b) .ok []) t
            (fun p => if p.number = n then afterCondition (definedCondition s d.source) p else p) nobody (definedNumbers u))

/-- MODIFY-POINT checks in the order of R13; accepted, it writes the definition and keeps the runtime (R14), and a changed
source resets the HOST fields and re-derives the condition in the same event (R15). The condition of a line is the state last
delivered for it, the old one while a batch is still to be taken: the model's reading of R6 and R16 (log 20).
A horn that sounds before and after the event goes on with its wave: the model's choice (log 13). -/
def Obligations.ModifyPoint : Prop :=
  ∀ (s : State) (b : DefBlock),
    Receptive s → WavesOk s → PanelOk s → b.WellFormed →
      let n := b.number.toNat
      let d := definitionWritten b
      (63 < n → exec (.modifyPoint b) s = .next (answered s (0x11 :: blockBytes b) .badArgument [])) ∧
      (n ≤ 63 → pointAt s n = none → exec (.modifyPoint b) s = .next (answered s (0x11 :: blockBytes b) .vacant [])) ∧
      ∀ p ∈ pointAt s n,
        let moves := d.source ≠ p.defn.source ∨ d.sequence ≠ p.defn.sequence ∨ d.group ≠ p.defn.group
        (¬ BlockInRange b → exec (.modifyPoint b) s = .next (answered s (0x11 :: blockBytes b) .badArgument [])) ∧
        (BlockInRange b → (moves ∧ (p.state ≠ .normal ∨ Marked s p)) ∨ (d.shelvable = false ∧ p.state = .shelved) →
          exec (.modifyPoint b) s = .next (answered s (0x11 :: blockBytes b) .wrongState [])) ∧
        (BlockInRange b → (moves → p.state = .normal ∧ ¬ Marked s p) → (p.state = .shelved → d.shelvable = true) →
          ∃ t, exec (.modifyPoint b) s = .next t ∧
            PanelEvent (answered s (0x11 :: blockBytes b) .ok []) t
              (fun q =>
                if q.number ≠ n then q
                else if q.defn.source = d.source then { q with defn := d }
                else
                  afterCondition (definedCondition s d.source)
                    { defn := d, run := { q.run with condition := .normal, asserted := .normal, age := 0, stale := false } })
              nobody (definedNumbers s))

/-- RETIRE-POINT checks in the order of R17; accepted, the shelf entry, the capture, the change list entry and the record go,
nothing is posted, and nothing else changes. -/
def Obligations.RetirePoint : Prop :=
  ∀ (s : State) (point : Byte),
    Receptive s → WavesOk s → PanelOk s →
      let n := point.toNat
      (63 < n → exec (.retirePoint point) s = .next (answered s [0x12, point] .badArgument [])) ∧
      (n ≤ 63 → pointAt s n = none → exec (.retirePoint point) s = .next (answered s [0x12, point] .vacant [])) ∧
      ∀ p ∈ pointAt s n,
        (p.state ≠ .normal → p.state ≠ .shelved →
          exec (.retirePoint point) s = .next (answered s [0x12, point] .wrongState [])) ∧
        (p.state = .normal ∨ p.state = .shelved →
          exec (.retirePoint point) s =
            .next (answered
              { s with
                points := s.points.filter fun q => decide (q.number ≠ n)
                shelf := s.shelf.filter fun e => decide (e.point ≠ n)
                changes := s.changes.filter fun e => decide (e.point ≠ n)
                groups := s.groups.map fun G => if G.state = .captured n then { G with state := .armed } else G }
              [0x12, point] .ok []))

/-- READ-POINT returns the 9 + n bytes of R183 for a Defined slot and changes nothing (R19). -/
def Obligations.ReadPoint : Prop :=
  ∀ (s : State) (point : Byte),
    Receptive s → WavesOk s → PanelOk s →
      (63 < point.toNat → exec (.readPoint point) s = .next (answered s [0x13, point] .badArgument [])) ∧
      (point.toNat ≤ 63 → pointAt s point.toNat = none →
        exec (.readPoint point) s = .next (answered s [0x13, point] .vacant [])) ∧
      ∀ p ∈ pointAt s point.toNat,
        let n := p.defn.cells.length
        ∃ r, exec (.readPoint point) s = .next (answered s [0x13, point] .ok r) ∧
          r.length = 9 + n ∧
          (resultByte r 1).toNat = p.defn.number ∧
          (∀ l ∈ p.defn.source.lineNumber, (resultByte r 2).toNat = l) ∧
          (p.defn.source = .host → resultByte r 2 = 0x80) ∧
          (p.defn.sequence = .auto → resultByte r 3 = 0x00) ∧ (p.defn.sequence = .lock → resultByte r 3 = 0x01) ∧
          (p.defn.sequence = .ringback → resultByte r 3 = 0x02) ∧
          (resultByte r 4).toNat = p.defn.group ∧
          BitSays r 5 7 (p.defn.audible = true) ∧ BitSays r 5 6 (p.defn.shelvable = true) ∧
          field (resultByte r 5) 3 3 = 0 ∧ field (resultByte r 5) 0 3 = p.defn.priority ∧
          (resultByte r 6).toNat = n ∧
          (∀ k ∈ List.range n, (resultByte r (7 + k)).toNat = p.defn.cells.getD k 0) ∧
          field (resultByte r (7 + n)) 0 3 = stateCode p.state ∧
          BitSays r (7 + n) 3 (p.run.condition = .abnormal) ∧
          BitSays r (7 + n) 4 (p.defn.source = .host ∧ p.run.asserted = .abnormal) ∧
          BitSays r (7 + n) 5 (p.defn.source = .host ∧ p.run.stale = true) ∧
          BitSays r (7 + n) 6 (p.run.silenced = true) ∧ BitSays r (7 + n) 7 (Marked s p) ∧
          (resultByte r (8 + n)).toNat = (if p.defn.source = .host then p.run.age else 0) ∧
          (p.state ≠ .shelved → resultByte r (9 + n) = 0) ∧
          (p.state = .shelved → ∀ e ∈ s.shelf, e.point = p.number → (resultByte r (9 + n)).toNat = e.remaining)

/-- READ-DEFINED returns the occupancy map, one flag for each of the 64 slots, and has no effect (R20, R186). -/
def Obligations.ReadDefined : Prop :=
  ∀ (s : State),
    Receptive s → WavesOk s →
      ∃ r, exec .readDefined s = .next (answered s [0x14] .ok r) ∧
        r.length = 8 ∧ ∀ n ∈ List.range 64, BitSays r (n / 8 + 1) (n % 8) (pointAt s n ≠ none)

/-! ### Host-asserted points -/

/-- ASSERT checks in the order of R90; accepted, it writes the asserted value, refreshes the one point and re-derives its
condition once, in one event (R91).
A horn that sounds before and after the event goes on with its wave: the model's choice (log 13). -/
def Obligations.Assert : Prop :=
  ∀ (s : State) (point value : Byte),
    Receptive s → WavesOk s → PanelOk s →
      let n := point.toNat
      let v : Condition := if value = 0x01 then .abnormal else .normal
      (63 < n ∨ 1 < value.toNat → exec (.assert point value) s = .next (answered s [0x18, point, value] .badArgument [])) ∧
      (n ≤ 63 → value.toNat ≤ 1 → pointAt s n = none →
        exec (.assert point value) s = .next (answered s [0x18, point, value] .vacant [])) ∧
      ∀ p ∈ pointAt s n, value.toNat ≤ 1 →
        (p.defn.source ≠ .host →
          exec (.assert point value) s = .next (answered s [0x18, point, value] .wrongSource [])) ∧
        (p.defn.source = .host →
          ∃ t, exec (.assert point value) s = .next t ∧
            PanelEvent (answered s [0x18, point, value] .ok []) t
              (fun q => if q.number = n then afterAgeing v 0 false q else q) nobody (definedNumbers s))

/-- REFRESH-ALL refreshes every HOST point in one event and leaves the lease timer (R92); CONFIGURE-LEASE writes the interval,
restarts the timer and refreshes every HOST point (R94).
A horn that sounds before and after the event goes on with its wave: the model's choice (log 13). -/
def Obligations.RefreshAndLease : Prop :=
  ∀ (s : State) (interval : Byte),
    Receptive s → PanelOk s →
      (∃ t, exec .refreshAll s = .next t ∧
        PanelEvent (answered s [0x19] .ok []) t afterRefresh nobody (definedNumbers s)) ∧
      (∃ t, exec (.configureLease interval) s = .next t ∧
        PanelEvent
          (answered { s with time := { s.time with leaseInterval := interval.toNat, leaseCount := 0 } } [0x1A, interval] .ok [])
          t afterRefresh nobody (definedNumbers s))

/-- A lease expiry that is due ages every HOST point in one event, restarts the count, and sets STALE_SEEN when a point turns
stale (R93, R95, R96); one that is not due does not occur (log 1).
A horn that sounds before and after the event goes on with its wave: the model's choice (log 13). -/
def Obligations.LeaseExpiry : Prop :=
  ∀ (s : State),
    WavesOk s → PanelOk s →
      let due := s.time.leaseInterval ≠ 0 ∧ s.time.leaseInterval * 128 ≤ s.time.leaseCount
      (due →
        ∃ t, exec .leaseExpiry s = .next t ∧
          PanelEvent
            { s with
              time := { s.time with leaseCount := 0 }
              flags :=
                if ∃ p ∈ s.points, p.defn.source = .host ∧ p.run.age = 2 then
                  { s.flags with staleSeen := { isSet := true, reported := false } }
                else s.flags }
            t afterLeaseExpiry nobody (definedNumbers s)) ∧
      (¬ due → exec .leaseExpiry s = .next s)

/-! ### Sequences -/

/-- The sequence logic answers ABN, NRM, ACK and CLR by the table of R25: the cells it names lead to the state it names with
the silenced flag clear, and every other pair of state and arrival changes nothing. -/
def Obligations.TransitionTable : Prop :=
  ∀ (p : Point) (a : Arrival),
    a ≠ .shelve → a ≠ .unshelve →
      let leads (st : PointState) := (arrive a p).point = { p with run := { p.run with state := st, silenced := false } }
      match p.state, a, p.defn.sequence with
      | .normal, .abn, _ => leads .alert
      | .alert, .ack, _ => leads .acked
      | .alert, .nrm, _ => leads .cleared
      | .acked, .nrm, .auto => leads .normal
      | .acked, .nrm, .lock => leads .hold
      | .acked, .nrm, .ringback => leads .returned
      | .cleared, .ack, .auto => leads .normal
      | .cleared, .ack, .lock => leads .hold
      | .cleared, .ack, .ringback => leads .returned
      | .cleared, .abn, _ => leads .alert
      | .hold, .clr, .lock => leads .normal
      | .hold, .abn, .lock => leads .alert
      | .returned, .clr, .ringback => leads .normal
      | .returned, .abn, .ringback => leads .alert
      | _, _, _ => (arrive a p).point = p

/-- ACKNOWLEDGE checks its scope (R35), applies ACK to every covered point in one event and returns how many points it moved
(R36, R37).
A horn that sounds before and after the event goes on with its wave: the model's choice (log 13). -/
def Obligations.Acknowledge : Prop :=
  ∀ (s : State) (scope : Byte),
    Receptive s → WavesOk s → PanelOk s →
      let f (p : Point) : Point := if Covers scope p then afterAck p else p
      (ScopeUnlisted scope → exec (.acknowledge scope) s = .next (answered s [0x20, scope] .badArgument [])) ∧
      (ScopeVacant s scope → exec (.acknowledge scope) s = .next (answered s [0x20, scope] .vacant [])) ∧
      (ScopeAccepted s scope →
        ∃ t, exec (.acknowledge scope) s = .next t ∧
          PanelEvent
            (answered s [0x20, scope] .ok [BitVec.ofNat 8 (s.points.countP fun p => decide ((f p).state ≠ p.state))])
            t f nobody (definedNumbers s))

/-- SILENCE checks its scope (R35), sets the silenced flag of every covered point in ALERT, CLEARED or RETURN that has it
clear, returns how many flags it set, and changes nothing else but the horns that then fall silent (R34, R38).
A horn that sounds before and after the event goes on with its wave: the model's choice (log 13). -/
def Obligations.Silence : Prop :=
  ∀ (s : State) (scope : Byte),
    Receptive s → WavesOk s → PanelOk s →
      let sets (p : Point) : Bool :=
        decide (Covers scope p ∧ (p.state = .alert ∨ p.state = .cleared ∨ p.state = .returned) ∧ p.run.silenced = false)
      (ScopeUnlisted scope → exec (.silence scope) s = .next (answered s [0x21, scope] .badArgument [])) ∧
      (ScopeVacant s scope → exec (.silence scope) s = .next (answered s [0x21, scope] .vacant [])) ∧
      (ScopeAccepted s scope →
        ∃ t, exec (.silence scope) s = .next t ∧
          t = { answered s [0x21, scope] .ok [BitVec.ofNat 8 (s.points.countP sets)] with
            points := s.points.map fun p => if sets p then { p with run := { p.run with silenced := true } } else p
            output := t.output } ∧
          t.output.gap = s.output.gap ∧ WavesFollow s t)

/-- CLEAR checks its scope (R35), applies CLR to every covered point, then asks the covered groups to release, which those do
without a member in ALERT or CLEARED; one event, with the count of points moved (R39, R40, R55).
A horn that sounds before and after the event goes on with its wave: the model's choice (log 13). -/
def Obligations.Clear : Prop :=
  ∀ (s : State) (scope : Byte),
    Receptive s → WavesOk s → PanelOk s →
      let f (p : Point) : Point := if Covers scope p then afterClr p else p
      (ScopeUnlisted scope → exec (.clear scope) s = .next (answered s [0x22, scope] .badArgument [])) ∧
      (ScopeVacant s scope → exec (.clear scope) s = .next (answered s [0x22, scope] .vacant [])) ∧
      (ScopeAccepted s scope →
        ∃ t, exec (.clear scope) s = .next t ∧
          PanelEvent
            (answered s [0x22, scope] .ok [BitVec.ofNat 8 (s.points.countP fun p => decide ((f p).state ≠ p.state))])
            t f (fun G => ClearCovers scope G ∧ ∀ p ∈ s.points, (f p).group = G.number → ¬ Unacknowledged (f p))
            (definedNumbers s))

/-- A key action that a qualified press has raised does what the command of the same name does with scope 0xFF, without an
answer (R41); while the part is SETTLING or the key is disabled it is ignored. Without a press there is none (logs 1, 12). -/
def Obligations.KeyAction : Prop :=
  ∀ (s : State) (k : ActionKey),
    WavesOk s → PanelOk s →
      ((actingKey k s.keys).due = true → (actingKey k s.keys).enable = true → isReady s = true →
        ∃ c, exec (keyCommand k) { s with rstn := true, port := .active .fresh } = .next c ∧
          exec (.keyAction k) s = .next { c with rstn := s.rstn, port := s.port, keys := keyTaken k s.keys }) ∧
      ((actingKey k s.keys).due = true → (actingKey k s.keys).enable = false ∨ isReady s = false →
        exec (.keyAction k) s = .next { s with keys := keyTaken k s.keys }) ∧
      ((actingKey k s.keys).due = false → exec (.keyAction k) s = .next s)

/-! ### The shelf -/

/-- SHELVE checks in the order of R103. For a point that is not SHELVED it places the entry, applies SHELVE and releases the
group whose captured point it is, in one event (R104, R57); for a SHELVED one it replaces the entry and nothing else
(R105).
A horn that sounds before and after the event goes on with its wave: the model's choice (log 13). -/
def Obligations.Shelve : Prop :=
  ∀ (s : State) (point minutes : Byte),
    Receptive s → WavesOk s → PanelOk s →
      let n := point.toNat
      let e : ShelfEntry := { point := n, remaining := minutes.toNat }
      (63 < n ∨ minutes.toNat = 0 ∨ 240 < minutes.toNat →
        exec (.shelve point minutes) s = .next (answered s [0x28, point, minutes] .badArgument [])) ∧
      (n ≤ 63 → 1 ≤ minutes.toNat → minutes.toNat ≤ 240 → pointAt s n = none →
        exec (.shelve point minutes) s = .next (answered s [0x28, point, minutes] .vacant [])) ∧
      ∀ p ∈ pointAt s n, 1 ≤ minutes.toNat → minutes.toNat ≤ 240 →
        (p.defn.shelvable = false →
          exec (.shelve point minutes) s = .next (answered s [0x28, point, minutes] .notShelvable [])) ∧
        (p.defn.shelvable = true → p.state = .shelved →
          exec (.shelve point minutes) s =
            .next (answered { s with shelf := placed e (s.shelf.filter fun x => decide (x.point ≠ n)) }
              [0x28, point, minutes] .ok [])) ∧
        (p.defn.shelvable = true → p.state ≠ .shelved → s.shelf.length = 16 →
          exec (.shelve point minutes) s = .next (answered s [0x28, point, minutes] .shelfFull [])) ∧
        (p.defn.shelvable = true → p.state ≠ .shelved → s.shelf.length < 16 →
          ∃ t, exec (.shelve point minutes) s = .next t ∧
            PanelEvent (answered { s with shelf := placed e s.shelf } [0x28, point, minutes] .ok []) t
              (fun q => if q.number = n then afterShelve q else q) (fun G => G.state = .captured n) (definedNumbers s))

/-- UNSHELVE checks in the order of R107; accepted, it removes the entry and places the point by its condition, in one event
(R30).
A horn that sounds before and after the event goes on with its wave: the model's choice (log 13). -/
def Obligations.Unshelve : Prop :=
  ∀ (s : State) (point : Byte),
    Receptive s → WavesOk s → PanelOk s →
      let n := point.toNat
      (63 < n → exec (.unshelve point) s = .next (answered s [0x29, point] .badArgument [])) ∧
      (n ≤ 63 → pointAt s n = none → exec (.unshelve point) s = .next (answered s [0x29, point] .vacant [])) ∧
      ∀ p ∈ pointAt s n,
        (p.state ≠ .shelved → exec (.unshelve point) s = .next (answered s [0x29, point] .wrongState [])) ∧
        (p.state = .shelved →
          ∃ t, exec (.unshelve point) s = .next t ∧
            PanelEvent
              (answered { s with shelf := s.shelf.filter fun e => decide (e.point ≠ n) } [0x29, point] .ok []) t
              (fun q => if q.number = n then afterUnshelve q else q) nobody (definedNumbers s))

/-- READ-SHELF returns the length and then the point and the remaining minutes of each entry in list order, and has no effect
(R112, R186). -/
def Obligations.ReadShelf : Prop :=
  ∀ (s : State),
    Receptive s → WavesOk s → PanelOk s →
      ∃ r, exec .readShelf s = .next (answered s [0x2A] .ok r) ∧
        r.length = 1 + 2 * s.shelf.length ∧ (resultByte r 1).toNat = s.shelf.length ∧
        ∀ k ∈ List.range s.shelf.length, ∀ e ∈ s.shelf[k]?,
          (resultByte r (2 * k + 2)).toNat = e.point ∧ (resultByte r (2 * k + 3)).toNat = e.remaining

/-- A minute expiry that is due lowers every entry by one, removes those at 0, and unshelves their points in one event; they
join the change list in the order of removal (R109, R171). Where another point is posted as well, it comes after them (the
model's choice, log 14). An expiry that is not due does not occur (log 1).
A horn that sounds before and after the event goes on with its wave: the model's choice (log 13). -/
def Obligations.MinuteExpiry : Prop :=
  ∀ (s : State),
    WavesOk s → PanelOk s →
      let out := (s.shelf.filter fun e => decide (e.remaining = 1)).map ShelfEntry.point
      (61440 ≤ s.time.minuteCount →
        ∃ t, exec .minuteExpiry s = .next t ∧
          PanelEvent
            { s with
              time := { s.time with minuteCount := 0 }
              shelf :=
                (s.shelf.filter fun e => decide (e.remaining ≠ 1)).map fun e => { e with remaining := e.remaining - 1 } }
            t (fun p => if p.number ∈ out then afterUnshelve p else p) nobody
            (out ++ (definedNumbers s).filter fun n => decide (n ∉ out))) ∧
      (s.time.minuteCount < 61440 → exec .minuteExpiry s = .next s)

/-! ### Groups -/

/-- CONFIGURE-GROUP refuses operands out of range; accepted, it releases the group, writes both fields and sets ARMED or
DISABLED (R59). RELEASE-GROUP refuses a group out of range and releases a CAPTURED group whatever its members' states (R56).
A release posts the former captured point (R53). Nothing else changes. -/
def Obligations.GroupCommands : Prop :=
  ∀ (s : State) (group enable release : Byte),
    Receptive s → WavesOk s → PanelOk s →
      (group.toNat = 0 ∨ 8 < group.toNat ∨ 1 < enable.toNat ∨ 1 < release.toNat →
        exec (.configureGroup group enable release) s =
          .next (answered s [0x30, group, enable, release] .badArgument [])) ∧
      (group.toNat = 0 ∨ 8 < group.toNat →
        exec (.releaseGroup group) s = .next (answered s [0x31, group] .badArgument [])) ∧
      ∀ G ∈ s.groups, G.number = group.toNat →
        (enable.toNat ≤ 1 → release.toNat ≤ 1 →
          exec (.configureGroup group enable release) s =
            .next (answered
              { s with
                groups := s.groups.map fun H =>
                  if H.number = group.toNat then
                    { number := H.number, enabled := decide (enable = 0x01)
                      release := if release = 0x01 then .manual else .auto
                      state := if enable = 0x01 then .armed else .disabled }
                  else H
                changes := afterReleasePost G s.changes }
              [0x30, group, enable, release] .ok [])) ∧
        exec (.releaseGroup group) s =
          .next (answered
            { s with
              groups := s.groups.map fun H =>
                if H.number = group.toNat ∧ H.state.capturedPoint ≠ none then { H with state := .armed } else H
              changes := afterReleasePost G s.changes }
            [0x31, group] .ok [])

/-- READ-GROUP returns the two bytes of R186 for a group 1 to 8 and has no effect (R62). -/
def Obligations.ReadGroup : Prop :=
  ∀ (s : State) (group : Byte),
    Receptive s → WavesOk s → PanelOk s →
      (group.toNat = 0 ∨ 8 < group.toNat → exec (.readGroup group) s = .next (answered s [0x32, group] .badArgument [])) ∧
      ∀ G ∈ s.groups, G.number = group.toNat →
        ∃ r, exec (.readGroup group) s = .next (answered s [0x32, group] .ok r) ∧
          r.length = 2 ∧ BitSays r 1 0 (G.enabled = true) ∧ BitSays r 1 1 (G.release = .manual) ∧
          field (resultByte r 1) 2 2 = 0 ∧ field (resultByte r 1) 6 2 = 0 ∧
          (G.state = .disabled → field (resultByte r 1) 4 2 = 0) ∧ (G.state = .armed → field (resultByte r 1) 4 2 = 1) ∧
          (∀ n ∈ G.state.capturedPoint, field (resultByte r 1) 4 2 = 2 ∧ (resultByte r 2).toNat = n) ∧
          (G.state.capturedPoint = none → resultByte r 2 = 0xFF)

/-! ### Inputs and keys -/

/-- CONFIGURE-INPUT refuses operands out of range (R76); accepted, it re-initialises or retunes its line (R77, R78) and hands a
change of the qualified state to the points that name the line, in one event (R79). Where the tick's input work is still due
it comes first, as an event of its own (the model's choice of order, log 11).
A horn that sounds before and after the event goes on with its wave: the model's choice (log 13). -/
def Obligations.ConfigureInput : Prop :=
  ∀ (s : State) (line enable normalLevel filter limit : Byte),
    Receptive s → WavesOk s → PanelOk s → LinesOk s →
      let bytes : List Byte := [0x38, line, enable, normalLevel, filter, limit]
      let i : Instr := .configureInput line enable normalLevel filter limit
      let accepted :=
        line.toNat ≤ 23 ∧ enable.toNat ≤ 1 ∧ normalLevel.toNat ≤ 1 ∧ 1 ≤ filter.toNat ∧ filter.toNat ≤ 15 ∧
          limit.toNat ≠ 1 ∧ limit.toNat ≤ 15
      (¬ accepted → exec i s = .next (answered s bytes .badArgument [])) ∧
      (accepted → ∃ u, exec .conditionBatch s = .next u ∧ exec i s = exec i u) ∧
      ∀ L ∈ s.lines, accepted → NoInputDue s → L.number = line.toNat →
        let L' :=
          configuredLine (decide (enable = 0x01)) (if normalLevel = 0x01 then .high else .low) filter.toNat limit.toNat L
        ∃ t, exec i s = .next t ∧
          PanelEvent
            (answered { s with lines := allHanded (s.lines.map fun M => if M.number = L.number then L' else M) } bytes .ok [])
            t
            (fun p =>
              if p.defn.source = .line L.number ∧ qualifiedByMode L' ≠ qualifiedByMode L then
                afterCondition (qualifiedByMode L') p
              else p)
            nobody (definedNumbers s)

/-- A condition batch delivers to the points the lines whose qualified state differs from the one last handed over, in one
event; while SETTLING none is delivered (R73, R74). A chatter-window expiry that is due returns quiet CHATTER lines to
TRACKING and clears the counts (R72); in a batch of the same tick it comes first (R72, R73, log 11). One that is not due does
not occur (log 1).
A horn that sounds before and after the event goes on with its wave: the model's choice (log 13). -/
def Obligations.ConditionBatch : Prop :=
  ∀ (s : State),
    WavesOk s → PanelOk s → LinesOk s →
      (isReady s = false → exec .conditionBatch s = .next s) ∧
      (isReady s = true → chatterDue s = false →
        ∃ t, exec .conditionBatch s = .next t ∧
          PanelEvent { s with lines := allHanded s.lines } t (afterBatch s.lines) nobody (definedNumbers s)) ∧
      (isReady s = true → ∃ u, exec .chatterWindowExpiry s = .next u ∧ exec .conditionBatch s = exec .conditionBatch u) ∧
      (8192 ≤ s.time.chatterCount →
        exec .chatterWindowExpiry s =
          .next { s with lines := s.lines.map afterWindow, time := { s.time with chatterCount := 0 } }) ∧
      (s.time.chatterCount < 8192 → exec .chatterWindowExpiry s = .next s)

/-- READ-INPUTS returns the sixteen bytes of R187 and has no effect (R87). -/
def Obligations.ReadInputs : Prop :=
  ∀ (s : State),
    Receptive s → WavesOk s → LinesOk s →
      ∃ r, exec .readInputs s = .next (answered s [0x39] .ok r) ∧
        r.length = 16 ∧
        (∀ L ∈ s.lines,
          BitSays r (L.number / 8 + 1) (L.number % 8) (L.raw = .high) ∧
          BitSays r (L.number / 8 + 4) (L.number % 8) (L.filtered = .abnormal) ∧
          BitSays r (L.number / 8 + 7) (L.number % 8) (qualifiedByMode L = .abnormal) ∧
          (L.mode = .disabled → field (resultByte r (L.number / 4 + 10)) (2 * (L.number % 4)) 2 = 0) ∧
          (L.mode = .tracking → field (resultByte r (L.number / 4 + 10)) (2 * (L.number % 4)) 2 = 1) ∧
          (L.mode = .chatter → field (resultByte r (L.number / 4 + 10)) (2 * (L.number % 4)) 2 = 2)) ∧
        BitSays r 16 0 (s.keys.ack.filtered = .pressed) ∧ BitSays r 16 1 (s.keys.silence.filtered = .pressed) ∧
        BitSays r 16 2 (s.keys.clear.filtered = .pressed) ∧ BitSays r 16 3 (s.keys.test.filtered = .pressed) ∧
        BitSays r 16 4 (s.keys.ack.enable = true) ∧ BitSays r 16 5 (s.keys.silence.enable = true) ∧
        BitSays r 16 6 (s.keys.clear.enable = true) ∧ BitSays r 16 7 (s.keys.test.enable = true)

/-- CONFIGURE-KEYS writes the four enables when all four operands are two-valued, touches no filter, and refuses otherwise
(R86); the key test claim follows at once (R85). -/
def Obligations.ConfigureKeys : Prop :=
  ∀ (s : State) (ack silence clear test : Byte),
    Receptive s → WavesOk s →
      let bytes : List Byte := [0x3A, ack, silence, clear, test]
      let i : Instr := .configureKeys ack silence clear test
      (1 < ack.toNat ∨ 1 < silence.toNat ∨ 1 < clear.toNat ∨ 1 < test.toNat →
        exec i s = .next (answered s bytes .badArgument [])) ∧
      (ack.toNat ≤ 1 → silence.toNat ≤ 1 → clear.toNat ≤ 1 → test.toNat ≤ 1 →
        ∃ t, exec i s = .next t ∧
          t = answered
            { s with
              keys :=
                { ack := { s.keys.ack with enable := decide (ack = 0x01) }
                  silence := { s.keys.silence with enable := decide (silence = 0x01) }
                  clear := { s.keys.clear with enable := decide (clear = 0x01) }
                  test := { s.keys.test with enable := decide (test = 0x01) } } }
            bytes .ok [] ∧
          (keyTest t = true ↔ s.keys.test.filtered = .pressed ∧ test = 0x01))

/-! ### The display -/

/-- CONFIGURE-DISPLAY checks its three operands, then writes quiet-panel and the commons pending and acts on the drive: power
on starts a warm-up only from OFF, power off sets OFF and discards the image (R128, R133). SET-OVERRIDE writes the command test
claim (R127). Neither changes anything else. -/
def Obligations.DisplayCommands : Prop :=
  ∀ (s : State) (power commons quiet test : Byte),
    Receptive s → WavesOk s →
      let i : Instr := .configureDisplay power commons quiet
      let accepted := power.toNat ≤ 1 ∧ 1 ≤ commons.toNat ∧ commons.toNat ≤ 4 ∧ quiet.toNat ≤ 1
      (¬ accepted → exec i s = .next (answered s [0x40, power, commons, quiet] .badArgument [])) ∧
      (accepted →
        exec i s =
          .next (answered
            { s with
              display :=
                { s.display with
                  quiet := decide (quiet = 0x01)
                  commonsPending := commons.toNat
                  drive :=
                    if power = 0x01 then (if s.display.drive = .off then .warming 0 else s.display.drive) else .off
                  image := if power = 0x01 then s.display.image else none } }
            [0x40, power, commons, quiet] .ok [])) ∧
      (1 < test.toNat → exec (.setOverride test) s = .next (answered s [0x41, test] .badArgument [])) ∧
      (test.toNat ≤ 1 →
        exec (.setOverride test) s =
          .next (answered { s with display := { s.display with commandTest := decide (test = 0x01) } } [0x41, test] .ok []))

/-- A frame boundary that is due takes the commons pending and then, with the drive ACTIVE, a new image of the 160 cells (R130,
R132). It may also be taken ahead of its tick's sampling, in the REFCLK period before that tick, at the counter value that the
tick brings, so that a test claim that the tick changes comes after it (R134; the model's reading, log 22). A warm-up end that is
due makes the drive ACTIVE and takes an image at once (R129). Each changes nothing else, and does not occur at any other time
(log 1). -/
def Obligations.FrameAndWarmUp : Prop :=
  ∀ (s : State),
    WavesOk s → PanelOk s → TimeOk s →
      (s.time.frameDue = true →
        ∃ t, exec .frameBoundary s = .next t ∧
          t = { s with
            time := { s.time with frameDue := false }
            display := { s.display with commons := s.display.commonsPending, image := t.display.image } } ∧
          (s.display.drive = .active → ∃ image ∈ t.display.image, ImageShows t image) ∧
          (s.display.drive ≠ .active → t.display.image = s.display.image)) ∧
      (let ahead := s.time.prescaler = 31 ∧ (s.time.cycle + 1) % 16 = 0 ∧ s.time.frameAhead = false
      (s.time.frameDue = false → ahead →
        ∃ t, exec .frameBoundary s = .next t ∧
          t = { s with
            time := { s.time with frameAhead := true }
            display := { s.display with commons := s.display.commonsPending, image := t.display.image } } ∧
          (s.display.drive = .active →
            ∃ image ∈ t.display.image, ImageShows { t with time := { t.time with cycle := (s.time.cycle + 1) % 2048 } } image) ∧
          (s.display.drive ≠ .active → t.display.image = s.display.image)) ∧
      (s.time.frameDue = false → ¬ ahead → exec .frameBoundary s = .next s)) ∧
      ((∃ n ∈ s.display.drive.count, 64 ≤ n) →
        ∃ t, exec .warmUpEnd s = .next t ∧
          t = { s with display := { s.display with drive := .active, image := t.display.image } } ∧
          ∃ image ∈ t.display.image, ImageShows t image) ∧
      ((∀ n ∈ s.display.drive.count, n < 64) → exec .warmUpEnd s = .next s)

/-- READ-CELLS checks its operands (R135), returns the header and one byte for each cell in the layout of R188, with the
resolved pattern of R119, lit-now of R126 and shown of R131, and has no effect (R136). -/
def Obligations.ReadCells : Prop :=
  ∀ (s : State) (first count : Byte),
    Receptive s → WavesOk s → PanelOk s → TimeOk s → DisplayOk s →
      (count.toNat = 0 ∨ 32 < count.toNat ∨ 159 < first.toNat ∨ 160 < first.toNat + count.toNat →
        exec (.readCells first count) s = .next (answered s [0x42, first, count] .badArgument [])) ∧
      (1 ≤ count.toNat → count.toNat ≤ 32 → first.toNat + count.toNat ≤ 160 →
        ∃ r, exec (.readCells first count) s = .next (answered s [0x42, first, count] .ok r) ∧
          r.length = 4 + count.toNat ∧
          ShowsDrive s.display.drive (field (resultByte r 1) 0 2) ∧
          BitSays r 1 2 (s.display.quiet = true) ∧ BitSays r 1 3 (s.display.commandTest = true) ∧
          BitSays r 1 4 (KeyTestClaim s) ∧ BitSays r 1 5 (TestActive s) ∧ field (resultByte r 1) 6 2 = 0 ∧
          field (resultByte r 2) 0 3 = s.display.commons ∧ field (resultByte r 2) 4 3 = s.display.commonsPending ∧
          BitSays r 2 3 False ∧ BitSays r 2 7 False ∧
          256 * (resultByte r 3).toNat + (resultByte r 4).toNat = s.time.cycle ∧
          ∀ k ∈ List.range count.toNat,
            field (resultByte r (5 + k)) 0 3 = resolvedCode s (first.toNat + k) ∧
            BitSays r (5 + k) 3 (LitNow s (first.toNat + k)) ∧ BitSays r (5 + k) 4 (Shown s (first.toNat + k)) ∧
            field (resultByte r (5 + k)) 5 3 = 0)

/-! ### The horns and CMN -/

/-- CONFIGURE-HORN checks its operands, then writes the named horn's enable and tone pending and the one re-trigger enable; the
tones in effect, the other horn and a gap stay, and each horn's wave follows whether it sounds (R145, R147, R148).
A horn that sounds before and after the event goes on with its wave: the model's choice (log 13). -/
def Obligations.ConfigureHorn : Prop :=
  ∀ (s : State) (horn enable tone retrigger : Byte),
    Receptive s → WavesOk s →
      let i : Instr := .configureHorn horn enable tone retrigger
      let accepted :=
        1 ≤ horn.toNat ∧ horn.toNat ≤ 2 ∧ enable.toNat ≤ 1 ∧ retrigger.toNat ≤ 1 ∧ 1 ≤ tone.toNat ∧ tone.toNat ≤ 63
      (¬ accepted → exec i s = .next (answered s [0x48, horn, enable, tone, retrigger] .badArgument [])) ∧
      (accepted →
        ∃ t, exec i s = .next t ∧
          t = { answered s [0x48, horn, enable, tone, retrigger] .ok [] with output := t.output } ∧
          t.output.retrigger = decide (retrigger = 0x01) ∧ t.output.gap = s.output.gap ∧
          t.output.horn1 =
            { enable := if horn = 0x01 then decide (enable = 0x01) else s.output.horn1.enable
              tone := s.output.horn1.tone
              tonePending := if horn = 0x01 then some tone.toNat else s.output.horn1.tonePending
              wave := waveIn t .horn1 s.output.horn1.wave } ∧
          t.output.horn2 =
            { enable := if horn = 0x02 then decide (enable = 0x01) else s.output.horn2.enable
              tone := s.output.horn2.tone
              tonePending := if horn = 0x02 then some tone.toNat else s.output.horn2.tonePending
              wave := waveIn t .horn2 s.output.horn2.wave })

/-- READ-OUTPUTS returns the seven bytes of R189: requests by R141, governing priorities by R143, sounding by R144 and R145,
CMN by R150; it has no effect (R154). -/
def Obligations.ReadOutputs : Prop :=
  ∀ (s : State),
    Receptive s → WavesOk s → PanelOk s → TimeOk s → OutputOk s →
      ∃ r, exec .readOutputs s = .next (answered s [0x49] .ok r) ∧
        r.length = 7 ∧
        BitSays r 1 0 (∃ p ∈ s.points, Requests .horn1 p) ∧ BitSays r 1 1 (∃ p ∈ s.points, Requests .horn2 p) ∧
        BitSays r 1 2 (s.output.horn1.enable = true) ∧ BitSays r 1 3 (s.output.horn2.enable = true) ∧
        BitSays r 1 4 (Sounds s .horn1) ∧ BitSays r 1 5 (Sounds s .horn2) ∧
        BitSays r 1 6 (s.output.retrigger = true) ∧ BitSays r 1 7 False ∧
        Governs s .horn1 (field (resultByte r 2) 0 3) ∧ Governs s .horn2 (field (resultByte r 2) 4 3) ∧
        BitSays r 2 3 False ∧ BitSays r 2 7 False ∧
        (resultByte r 3).toNat = s.output.horn1.tone ∧ (resultByte r 4).toNat = s.output.horn1.tonePending.getD 0 ∧
        (resultByte r 5).toNat = s.output.horn2.tone ∧ (resultByte r 6).toNat = s.output.horn2.tonePending.getD 0 ∧
        BitSays r 7 0 (AlarmPresent s) ∧ BitSays r 7 1 (AlarmPresent s ∧ s.output.gap = none) ∧
        BitSays r 7 2 (s.output.gap ≠ none) ∧ field (resultByte r 7) 3 5 = 0

/-- The three timed events of the output unit, each changing nothing else: the wrap takes each tone pending (R146), the gap end
ends the gap (R152), and a half-wave end begins the other half of a sounding horn's wave, N + 1 REFCLK periods after the half
began (R145, R146). One that is not due does not occur (log 1). The count of N + 1 periods and the change of half at its end are
the model's reading of the tone's frequency (log 13); that the wrap's event may stand apart from its tick is its choice (log 21). -/
def Obligations.WrapGapEndHalfWaveEnd : Prop :=
  ∀ (s : State) (h : HornId),
    WavesOk s →
      (s.time.wrapDue = true →
        exec .wrap s =
          .next { s with
            time := { s.time with wrapDue := false }
            output :=
              { s.output with
                horn1 :=
                  { s.output.horn1 with tone := s.output.horn1.tonePending.getD s.output.horn1.tone, tonePending := none }
                horn2 :=
                  { s.output.horn2 with tone := s.output.horn2.tonePending.getD s.output.horn2.tone, tonePending := none } } }) ∧
      (s.time.wrapDue = false → exec .wrap s = .next s) ∧
      ((∃ n ∈ s.output.gap, 512 ≤ n) → exec .gapEnd s = .next { s with output := { s.output with gap := none } }) ∧
      ((∀ n ∈ s.output.gap, n < 512) → exec .gapEnd s = .next s) ∧
      (sounding s h = true → (s.output.horn h).tone + 1 ≤ (s.output.horn h).wave.elapsed →
        ∃ t, exec (.halfWaveEnd h) s = .next t ∧ t = { s with output := t.output } ∧
          t.output.horn h = { s.output.horn h with wave := { high := !(s.output.horn h).wave.high, elapsed := 0 } } ∧
          (∀ k, k ≠ h → t.output.horn k = s.output.horn k) ∧
          t.output.retrigger = s.output.retrigger ∧ t.output.gap = s.output.gap) ∧
      (sounding s h = false ∨ (s.output.horn h).wave.elapsed ≤ (s.output.horn h).tone →
        exec (.halfWaveEnd h) s = .next s)

/-! ### Time -/

/-- A REFCLK period that is no tick counts in the prescaler and in the half-waves of the horns that sound, and changes nothing
else (R190, R145); it is stated where every event of the tick has been taken (log 2). While RSTN is low neither a period nor a
tick does anything (R190). The count of a half-wave in REFCLK periods is the model's reading (log 13). -/
def Obligations.RefclkPeriod : Prop :=
  ∀ (s : State) (lines : BitVec 24) (keys : BitVec 4),
    (s.rstn = false → exec (.refclkPeriod lines keys) s = .next s ∧ exec (.tick lines keys) s = .next s) ∧
    (s.rstn = true → WavesOk s → NothingDue s → s.time.prescaler < 31 →
      ∃ t, exec (.refclkPeriod lines keys) s = .next t ∧
        t = { s with time := { s.time with prescaler := s.time.prescaler + 1 }, output := t.output } ∧
        t.output.retrigger = s.output.retrigger ∧ t.output.gap = s.output.gap ∧
        ∀ h, t.output.horn h =
          { s.output.horn h with
            wave :=
              if sounding s h then
                { high := (s.output.horn h).wave.high, elapsed := (s.output.horn h).wave.elapsed + 1 }
              else { high := true, elapsed := 0 } })

/-- The tick, by the period that ends it or by TICK itself: the lines and the keys are sampled (R68 to R70, R82, R83, R85), an
entry into CHATTER sets CHATTER_SEEN (R70), the warm-up, gap and settle counts and the timers advance (R129, R152, R192 to
R197), the wrap and the frame boundary of the tick come due, and a horn's tone starts with a high half at the wrap and when it
begins to sound (R145). Nothing else changes. Stated where every event of the tick before has been taken (log 2). The model's own
in this: TICK at prescaler 31 is this one period (log 4); a tick whose settle end was taken ahead does not count for the lease and
the minute (log 10), and a boundary taken ahead does not come due again (log 22); a raised key action waits for its own row (log
12); a horn's wave counts REFCLK periods (log 13); the tones pending wait for the WRAP (log 21). -/
def Obligations.TickEvent : Prop :=
  ∀ (s : State) (lines : BitVec 24) (keys : BitVec 4),
    s.rstn = true → WavesOk s → NothingDue s → LinesOk s → KeysOk s → TimeOk s → s.time.prescaler = 31 →
      ∃ t, exec (.refclkPeriod lines keys) s = .next t ∧ exec (.tick lines keys) s = .next t ∧
        t = { s with
          lines := t.lines, keys := t.keys, flags := t.flags, display := t.display, output := t.output, time := t.time } ∧
        t.lines.length = s.lines.length ∧
        (∀ x ∈ s.lines.zip t.lines, LineSampled (lines.getLsbD x.1.number) x.1 x.2) ∧
        KeySampled (keys.getLsbD 0) (isReady s) s.keys.ack t.keys.ack ∧
        KeySampled (keys.getLsbD 1) (isReady s) s.keys.silence t.keys.silence ∧
        KeySampled (keys.getLsbD 2) (isReady s) s.keys.clear t.keys.clear ∧
        KeySampled (keys.getLsbD 3) false s.keys.test t.keys.test ∧
        t.flags =
          (if ∃ x ∈ s.lines.zip t.lines, x.1.mode ≠ .chatter ∧ x.2.mode = .chatter then
            { s.flags with chatterSeen := { isSet := true, reported := false } }
          else s.flags) ∧
        t.display = { s.display with drive := t.display.drive } ∧
        (s.display.drive.count = none → t.display.drive = s.display.drive) ∧
        (∀ n ∈ s.display.drive.count, t.display.drive = .warming (n + 1)) ∧
        t.output.retrigger = s.output.retrigger ∧ t.output.gap = s.output.gap.map (fun n => n + 1) ∧
        (∀ h ∈ [HornId.horn1, HornId.horn2], t.output.horn h =
          { s.output.horn h with
            wave :=
              if sounding t h = true ∧ sounding s h = true ∧ (s.time.cycle + 1) % 2048 ≠ 0 then
                { high := (s.output.horn h).wave.high, elapsed := (s.output.horn h).wave.elapsed + 1 }
              else { high := true, elapsed := 0 } }) ∧
        (let runs := isReady s = true ∧ s.time.settleAhead = false
        t.time =
          { prescaler := 0
            cycle := (s.time.cycle + 1) % 2048
            chatterCount := s.time.chatterCount + 1
            leaseInterval := s.time.leaseInterval
            leaseCount := if runs ∧ s.time.leaseInterval ≠ 0 then s.time.leaseCount + 1 else s.time.leaseCount
            minuteCount := if runs then s.time.minuteCount + 1 else s.time.minuteCount
            device := t.time.device
            wrapDue := decide ((s.time.cycle + 1) % 2048 = 0)
            frameDue := decide ((s.time.cycle + 1) % 2048 % 16 = 0 ∧ s.time.frameAhead = false)
            settleAhead := false
            frameAhead := false }) ∧
        (isReady s = true → t.time.device = .ready) ∧
        ∀ n ∈ s.time.device.count, t.time.device = .settling (n + 1)

/-- TICK is the REFCLK periods left of the current tick, taken one after another (R190, log 4); and a period takes every event
that is still due first, in the model's fixed order, which the sender may always anticipate (R196, log 2; the settle end and the
frame boundary ahead of their tick, logs 10 and 22, aside). -/
def Obligations.TimePassesInRefclkPeriods : Prop :=
  ∀ (s : State) (lines : BitVec 24) (keys : BitVec 4) (rest : List Instr),
    s.rstn = true → TimeOk s →
      Host.Core.run core (32 - s.time.prescaler)
          { s with pending := List.replicate (32 - s.time.prescaler) (.refclkPeriod lines keys) ++ rest } =
        exec (.tick lines keys) { s with pending := rest } ∧
      (settleCanLead s = false → frameCanLead s = false →
        ∃ u, Host.Core.run core 14
            { s with
              pending :=
                [.chatterWindowExpiry, .conditionBatch, .keyAction .ack, .keyAction .silence, .keyAction .clear, .leaseExpiry,
                  .minuteExpiry, .settleEnd, .gapEnd, .warmUpEnd, .wrap, .frameBoundary, .halfWaveEnd .horn1,
                  .halfWaveEnd .horn2] ++ rest } = .next u ∧
          NothingDue u ∧
          exec (.refclkPeriod lines keys) { s with pending := rest } = exec (.refclkPeriod lines keys) u)

/-- The settle end is one event: every LINE point takes its line's current qualified state, the offers are decided together,
the lines count as handed over, the lease timer and the minute counter start from 0, and the part is READY (R200, R73, R195).
It is due on the tick that brings the settle count to 32, and may be taken ahead of that tick's sampling (R74, log 10); at any
other time it does not occur (log 1).
A horn that sounds before and after the event goes on with its wave: the model's choice (log 13). -/
def Obligations.SettleEnd : Prop :=
  ∀ (s : State),
    WavesOk s → PanelOk s → LinesOk s → TimeOk s →
      let ahead := s.time.device = .settling 31 ∧ s.time.prescaler = 31
      (s.time.device = .settling 32 ∨ ahead →
        ∃ t, exec .settleEnd s = .next t ∧
          PanelEvent
            { s with
              lines := allHanded s.lines
              time := { s.time with leaseCount := 0, minuteCount := 0, device := .ready, settleAhead := decide ahead } }
            t (afterLineState s) nobody (definedNumbers s)) ∧
      (s.time.device ≠ .settling 32 → ¬ ahead → exec .settleEnd s = .next s)

/-- RESTART, taken while READY, resets every runtime, removes the captures, empties the shelf and the change list, clears the
flags, ends the gap, zeroes the lease and minute counts and begins a settle; every definition and configuration is kept
(R202). The mark settleAhead that it clears is the model's own (log 10), and so is the wave at rest (log 13). -/
def Obligations.Restart : Prop :=
  ∀ (s : State),
    Receptive s →
      exec .restart s =
        .next (answered
          { s with
            points := s.points.map fun p => { p with run := newRuntime }
            groups := s.groups.map fun G => { G with state := if G.enabled then .armed else .disabled }
            shelf := []
            changes := []
            flags :=
              { truncated := { isSet := false, reported := false }, unknown := { isSet := false, reported := false }
                staleSeen := { isSet := false, reported := false }, chatterSeen := { isSet := false, reported := false } }
            output :=
              { s.output with
                gap := none
                horn1 := { s.output.horn1 with wave := { high := true, elapsed := 0 } }
                horn2 := { s.output.horn2 with wave := { high := true, elapsed := 0 } } }
            time := { s.time with leaseCount := 0, minuteCount := 0, device := .settling 0, settleAhead := false } }
          [0x08] .ok [])
end

