-- ==== Sys2Proof/Laws/State.lean ====
section
/-! SUPPORT. One lemma per field for each operation that replaces one part of the state, and for the operations that end every
event, so that no later proof unfolds a record update. -/

namespace Sys2Proof.Machine

/-! ### withPoints -/

@[simp] theorem State.withPoints_rstn (s : State) (x : List Point) : (s.withPoints x).rstn = s.rstn := rfl
@[simp] theorem State.withPoints_cs (s : State) (x : List Point) : (s.withPoints x).cs = s.cs := rfl
@[simp] theorem State.withPoints_points (s : State) (x : List Point) : (s.withPoints x).points = x := rfl
@[simp] theorem State.withPoints_groups (s : State) (x : List Point) : (s.withPoints x).groups = s.groups := rfl
@[simp] theorem State.withPoints_lines (s : State) (x : List Point) : (s.withPoints x).lines = s.lines := rfl
@[simp] theorem State.withPoints_keys (s : State) (x : List Point) : (s.withPoints x).keys = s.keys := rfl
@[simp] theorem State.withPoints_shelf (s : State) (x : List Point) : (s.withPoints x).shelf = s.shelf := rfl
@[simp] theorem State.withPoints_display (s : State) (x : List Point) : (s.withPoints x).display = s.display := rfl
@[simp] theorem State.withPoints_output (s : State) (x : List Point) : (s.withPoints x).output = s.output := rfl
@[simp] theorem State.withPoints_changes (s : State) (x : List Point) : (s.withPoints x).changes = s.changes := rfl
@[simp] theorem State.withPoints_flags (s : State) (x : List Point) : (s.withPoints x).flags = s.flags := rfl
@[simp] theorem State.withPoints_notify (s : State) (x : List Point) : (s.withPoints x).notify = s.notify := rfl
@[simp] theorem State.withPoints_port (s : State) (x : List Point) : (s.withPoints x).port = s.port := rfl
@[simp] theorem State.withPoints_time (s : State) (x : List Point) : (s.withPoints x).time = s.time := rfl
@[simp] theorem State.withPoints_pending (s : State) (x : List Point) : (s.withPoints x).pending = s.pending := rfl

/-! ### withGroups -/

@[simp] theorem State.withGroups_rstn (s : State) (x : List Group) : (s.withGroups x).rstn = s.rstn := rfl
@[simp] theorem State.withGroups_cs (s : State) (x : List Group) : (s.withGroups x).cs = s.cs := rfl
@[simp] theorem State.withGroups_points (s : State) (x : List Group) : (s.withGroups x).points = s.points := rfl
@[simp] theorem State.withGroups_groups (s : State) (x : List Group) : (s.withGroups x).groups = x := rfl
@[simp] theorem State.withGroups_lines (s : State) (x : List Group) : (s.withGroups x).lines = s.lines := rfl
@[simp] theorem State.withGroups_keys (s : State) (x : List Group) : (s.withGroups x).keys = s.keys := rfl
@[simp] theorem State.withGroups_shelf (s : State) (x : List Group) : (s.withGroups x).shelf = s.shelf := rfl
@[simp] theorem State.withGroups_display (s : State) (x : List Group) : (s.withGroups x).display = s.display := rfl
@[simp] theorem State.withGroups_output (s : State) (x : List Group) : (s.withGroups x).output = s.output := rfl
@[simp] theorem State.withGroups_changes (s : State) (x : List Group) : (s.withGroups x).changes = s.changes := rfl
@[simp] theorem State.withGroups_flags (s : State) (x : List Group) : (s.withGroups x).flags = s.flags := rfl
@[simp] theorem State.withGroups_notify (s : State) (x : List Group) : (s.withGroups x).notify = s.notify := rfl
@[simp] theorem State.withGroups_port (s : State) (x : List Group) : (s.withGroups x).port = s.port := rfl
@[simp] theorem State.withGroups_time (s : State) (x : List Group) : (s.withGroups x).time = s.time := rfl
@[simp] theorem State.withGroups_pending (s : State) (x : List Group) : (s.withGroups x).pending = s.pending := rfl

/-! ### withLines -/

@[simp] theorem State.withLines_rstn (s : State) (x : List Line) : (s.withLines x).rstn = s.rstn := rfl
@[simp] theorem State.withLines_cs (s : State) (x : List Line) : (s.withLines x).cs = s.cs := rfl
@[simp] theorem State.withLines_points (s : State) (x : List Line) : (s.withLines x).points = s.points := rfl
@[simp] theorem State.withLines_groups (s : State) (x : List Line) : (s.withLines x).groups = s.groups := rfl
@[simp] theorem State.withLines_lines (s : State) (x : List Line) : (s.withLines x).lines = x := rfl
@[simp] theorem State.withLines_keys (s : State) (x : List Line) : (s.withLines x).keys = s.keys := rfl
@[simp] theorem State.withLines_shelf (s : State) (x : List Line) : (s.withLines x).shelf = s.shelf := rfl
@[simp] theorem State.withLines_display (s : State) (x : List Line) : (s.withLines x).display = s.display := rfl
@[simp] theorem State.withLines_output (s : State) (x : List Line) : (s.withLines x).output = s.output := rfl
@[simp] theorem State.withLines_changes (s : State) (x : List Line) : (s.withLines x).changes = s.changes := rfl
@[simp] theorem State.withLines_flags (s : State) (x : List Line) : (s.withLines x).flags = s.flags := rfl
@[simp] theorem State.withLines_notify (s : State) (x : List Line) : (s.withLines x).notify = s.notify := rfl
@[simp] theorem State.withLines_port (s : State) (x : List Line) : (s.withLines x).port = s.port := rfl
@[simp] theorem State.withLines_time (s : State) (x : List Line) : (s.withLines x).time = s.time := rfl
@[simp] theorem State.withLines_pending (s : State) (x : List Line) : (s.withLines x).pending = s.pending := rfl

/-! ### withKeys -/

@[simp] theorem State.withKeys_rstn (s : State) (x : Keys) : (s.withKeys x).rstn = s.rstn := rfl
@[simp] theorem State.withKeys_cs (s : State) (x : Keys) : (s.withKeys x).cs = s.cs := rfl
@[simp] theorem State.withKeys_points (s : State) (x : Keys) : (s.withKeys x).points = s.points := rfl
@[simp] theorem State.withKeys_groups (s : State) (x : Keys) : (s.withKeys x).groups = s.groups := rfl
@[simp] theorem State.withKeys_lines (s : State) (x : Keys) : (s.withKeys x).lines = s.lines := rfl
@[simp] theorem State.withKeys_keys (s : State) (x : Keys) : (s.withKeys x).keys = x := rfl
@[simp] theorem State.withKeys_shelf (s : State) (x : Keys) : (s.withKeys x).shelf = s.shelf := rfl
@[simp] theorem State.withKeys_display (s : State) (x : Keys) : (s.withKeys x).display = s.display := rfl
@[simp] theorem State.withKeys_output (s : State) (x : Keys) : (s.withKeys x).output = s.output := rfl
@[simp] theorem State.withKeys_changes (s : State) (x : Keys) : (s.withKeys x).changes = s.changes := rfl
@[simp] theorem State.withKeys_flags (s : State) (x : Keys) : (s.withKeys x).flags = s.flags := rfl
@[simp] theorem State.withKeys_notify (s : State) (x : Keys) : (s.withKeys x).notify = s.notify := rfl
@[simp] theorem State.withKeys_port (s : State) (x : Keys) : (s.withKeys x).port = s.port := rfl
@[simp] theorem State.withKeys_time (s : State) (x : Keys) : (s.withKeys x).time = s.time := rfl
@[simp] theorem State.withKeys_pending (s : State) (x : Keys) : (s.withKeys x).pending = s.pending := rfl

/-! ### withShelf -/

@[simp] theorem State.withShelf_rstn (s : State) (x : List ShelfEntry) : (s.withShelf x).rstn = s.rstn := rfl
@[simp] theorem State.withShelf_cs (s : State) (x : List ShelfEntry) : (s.withShelf x).cs = s.cs := rfl
@[simp] theorem State.withShelf_points (s : State) (x : List ShelfEntry) : (s.withShelf x).points = s.points := rfl
@[simp] theorem State.withShelf_groups (s : State) (x : List ShelfEntry) : (s.withShelf x).groups = s.groups := rfl
@[simp] theorem State.withShelf_lines (s : State) (x : List ShelfEntry) : (s.withShelf x).lines = s.lines := rfl
@[simp] theorem State.withShelf_keys (s : State) (x : List ShelfEntry) : (s.withShelf x).keys = s.keys := rfl
@[simp] theorem State.withShelf_shelf (s : State) (x : List ShelfEntry) : (s.withShelf x).shelf = x := rfl
@[simp] theorem State.withShelf_display (s : State) (x : List ShelfEntry) : (s.withShelf x).display = s.display := rfl
@[simp] theorem State.withShelf_output (s : State) (x : List ShelfEntry) : (s.withShelf x).output = s.output := rfl
@[simp] theorem State.withShelf_changes (s : State) (x : List ShelfEntry) : (s.withShelf x).changes = s.changes := rfl
@[simp] theorem State.withShelf_flags (s : State) (x : List ShelfEntry) : (s.withShelf x).flags = s.flags := rfl
@[simp] theorem State.withShelf_notify (s : State) (x : List ShelfEntry) : (s.withShelf x).notify = s.notify := rfl
@[simp] theorem State.withShelf_port (s : State) (x : List ShelfEntry) : (s.withShelf x).port = s.port := rfl
@[simp] theorem State.withShelf_time (s : State) (x : List ShelfEntry) : (s.withShelf x).time = s.time := rfl
@[simp] theorem State.withShelf_pending (s : State) (x : List ShelfEntry) : (s.withShelf x).pending = s.pending := rfl

/-! ### withDisplay -/

@[simp] theorem State.withDisplay_rstn (s : State) (x : Display) : (s.withDisplay x).rstn = s.rstn := rfl
@[simp] theorem State.withDisplay_cs (s : State) (x : Display) : (s.withDisplay x).cs = s.cs := rfl
@[simp] theorem State.withDisplay_points (s : State) (x : Display) : (s.withDisplay x).points = s.points := rfl
@[simp] theorem State.withDisplay_groups (s : State) (x : Display) : (s.withDisplay x).groups = s.groups := rfl
@[simp] theorem State.withDisplay_lines (s : State) (x : Display) : (s.withDisplay x).lines = s.lines := rfl
@[simp] theorem State.withDisplay_keys (s : State) (x : Display) : (s.withDisplay x).keys = s.keys := rfl
@[simp] theorem State.withDisplay_shelf (s : State) (x : Display) : (s.withDisplay x).shelf = s.shelf := rfl
@[simp] theorem State.withDisplay_display (s : State) (x : Display) : (s.withDisplay x).display = x := rfl
@[simp] theorem State.withDisplay_output (s : State) (x : Display) : (s.withDisplay x).output = s.output := rfl
@[simp] theorem State.withDisplay_changes (s : State) (x : Display) : (s.withDisplay x).changes = s.changes := rfl
@[simp] theorem State.withDisplay_flags (s : State) (x : Display) : (s.withDisplay x).flags = s.flags := rfl
@[simp] theorem State.withDisplay_notify (s : State) (x : Display) : (s.withDisplay x).notify = s.notify := rfl
@[simp] theorem State.withDisplay_port (s : State) (x : Display) : (s.withDisplay x).port = s.port := rfl
@[simp] theorem State.withDisplay_time (s : State) (x : Display) : (s.withDisplay x).time = s.time := rfl
@[simp] theorem State.withDisplay_pending (s : State) (x : Display) : (s.withDisplay x).pending = s.pending := rfl

/-! ### withOutput -/

@[simp] theorem State.withOutput_rstn (s : State) (x : Output) : (s.withOutput x).rstn = s.rstn := rfl
@[simp] theorem State.withOutput_cs (s : State) (x : Output) : (s.withOutput x).cs = s.cs := rfl
@[simp] theorem State.withOutput_points (s : State) (x : Output) : (s.withOutput x).points = s.points := rfl
@[simp] theorem State.withOutput_groups (s : State) (x : Output) : (s.withOutput x).groups = s.groups := rfl
@[simp] theorem State.withOutput_lines (s : State) (x : Output) : (s.withOutput x).lines = s.lines := rfl
@[simp] theorem State.withOutput_keys (s : State) (x : Output) : (s.withOutput x).keys = s.keys := rfl
@[simp] theorem State.withOutput_shelf (s : State) (x : Output) : (s.withOutput x).shelf = s.shelf := rfl
@[simp] theorem State.withOutput_display (s : State) (x : Output) : (s.withOutput x).display = s.display := rfl
@[simp] theorem State.withOutput_output (s : State) (x : Output) : (s.withOutput x).output = x := rfl
@[simp] theorem State.withOutput_changes (s : State) (x : Output) : (s.withOutput x).changes = s.changes := rfl
@[simp] theorem State.withOutput_flags (s : State) (x : Output) : (s.withOutput x).flags = s.flags := rfl
@[simp] theorem State.withOutput_notify (s : State) (x : Output) : (s.withOutput x).notify = s.notify := rfl
@[simp] theorem State.withOutput_port (s : State) (x : Output) : (s.withOutput x).port = s.port := rfl
@[simp] theorem State.withOutput_time (s : State) (x : Output) : (s.withOutput x).time = s.time := rfl
@[simp] theorem State.withOutput_pending (s : State) (x : Output) : (s.withOutput x).pending = s.pending := rfl

/-! ### withChanges -/

@[simp] theorem State.withChanges_rstn (s : State) (x : List ChangeEntry) : (s.withChanges x).rstn = s.rstn := rfl
@[simp] theorem State.withChanges_cs (s : State) (x : List ChangeEntry) : (s.withChanges x).cs = s.cs := rfl
@[simp] theorem State.withChanges_points (s : State) (x : List ChangeEntry) : (s.withChanges x).points = s.points := rfl
@[simp] theorem State.withChanges_groups (s : State) (x : List ChangeEntry) : (s.withChanges x).groups = s.groups := rfl
@[simp] theorem State.withChanges_lines (s : State) (x : List ChangeEntry) : (s.withChanges x).lines = s.lines := rfl
@[simp] theorem State.withChanges_keys (s : State) (x : List ChangeEntry) : (s.withChanges x).keys = s.keys := rfl
@[simp] theorem State.withChanges_shelf (s : State) (x : List ChangeEntry) : (s.withChanges x).shelf = s.shelf := rfl
@[simp] theorem State.withChanges_display (s : State) (x : List ChangeEntry) : (s.withChanges x).display = s.display := rfl
@[simp] theorem State.withChanges_output (s : State) (x : List ChangeEntry) : (s.withChanges x).output = s.output := rfl
@[simp] theorem State.withChanges_changes (s : State) (x : List ChangeEntry) : (s.withChanges x).changes = x := rfl
@[simp] theorem State.withChanges_flags (s : State) (x : List ChangeEntry) : (s.withChanges x).flags = s.flags := rfl
@[simp] theorem State.withChanges_notify (s : State) (x : List ChangeEntry) : (s.withChanges x).notify = s.notify := rfl
@[simp] theorem State.withChanges_port (s : State) (x : List ChangeEntry) : (s.withChanges x).port = s.port := rfl
@[simp] theorem State.withChanges_time (s : State) (x : List ChangeEntry) : (s.withChanges x).time = s.time := rfl
@[simp] theorem State.withChanges_pending (s : State) (x : List ChangeEntry) : (s.withChanges x).pending = s.pending := rfl

/-! ### withFlags -/

@[simp] theorem State.withFlags_rstn (s : State) (x : StickyFlags) : (s.withFlags x).rstn = s.rstn := rfl
@[simp] theorem State.withFlags_cs (s : State) (x : StickyFlags) : (s.withFlags x).cs = s.cs := rfl
@[simp] theorem State.withFlags_points (s : State) (x : StickyFlags) : (s.withFlags x).points = s.points := rfl
@[simp] theorem State.withFlags_groups (s : State) (x : StickyFlags) : (s.withFlags x).groups = s.groups := rfl
@[simp] theorem State.withFlags_lines (s : State) (x : StickyFlags) : (s.withFlags x).lines = s.lines := rfl
@[simp] theorem State.withFlags_keys (s : State) (x : StickyFlags) : (s.withFlags x).keys = s.keys := rfl
@[simp] theorem State.withFlags_shelf (s : State) (x : StickyFlags) : (s.withFlags x).shelf = s.shelf := rfl
@[simp] theorem State.withFlags_display (s : State) (x : StickyFlags) : (s.withFlags x).display = s.display := rfl
@[simp] theorem State.withFlags_output (s : State) (x : StickyFlags) : (s.withFlags x).output = s.output := rfl
@[simp] theorem State.withFlags_changes (s : State) (x : StickyFlags) : (s.withFlags x).changes = s.changes := rfl
@[simp] theorem State.withFlags_flags (s : State) (x : StickyFlags) : (s.withFlags x).flags = x := rfl
@[simp] theorem State.withFlags_notify (s : State) (x : StickyFlags) : (s.withFlags x).notify = s.notify := rfl
@[simp] theorem State.withFlags_port (s : State) (x : StickyFlags) : (s.withFlags x).port = s.port := rfl
@[simp] theorem State.withFlags_time (s : State) (x : StickyFlags) : (s.withFlags x).time = s.time := rfl
@[simp] theorem State.withFlags_pending (s : State) (x : StickyFlags) : (s.withFlags x).pending = s.pending := rfl

/-! ### withNotify -/

@[simp] theorem State.withNotify_rstn (s : State) (x : Notify) : (s.withNotify x).rstn = s.rstn := rfl
@[simp] theorem State.withNotify_cs (s : State) (x : Notify) : (s.withNotify x).cs = s.cs := rfl
@[simp] theorem State.withNotify_points (s : State) (x : Notify) : (s.withNotify x).points = s.points := rfl
@[simp] theorem State.withNotify_groups (s : State) (x : Notify) : (s.withNotify x).groups = s.groups := rfl
@[simp] theorem State.withNotify_lines (s : State) (x : Notify) : (s.withNotify x).lines = s.lines := rfl
@[simp] theorem State.withNotify_keys (s : State) (x : Notify) : (s.withNotify x).keys = s.keys := rfl
@[simp] theorem State.withNotify_shelf (s : State) (x : Notify) : (s.withNotify x).shelf = s.shelf := rfl
@[simp] theorem State.withNotify_display (s : State) (x : Notify) : (s.withNotify x).display = s.display := rfl
@[simp] theorem State.withNotify_output (s : State) (x : Notify) : (s.withNotify x).output = s.output := rfl
@[simp] theorem State.withNotify_changes (s : State) (x : Notify) : (s.withNotify x).changes = s.changes := rfl
@[simp] theorem State.withNotify_flags (s : State) (x : Notify) : (s.withNotify x).flags = s.flags := rfl
@[simp] theorem State.withNotify_notify (s : State) (x : Notify) : (s.withNotify x).notify = x := rfl
@[simp] theorem State.withNotify_port (s : State) (x : Notify) : (s.withNotify x).port = s.port := rfl
@[simp] theorem State.withNotify_time (s : State) (x : Notify) : (s.withNotify x).time = s.time := rfl
@[simp] theorem State.withNotify_pending (s : State) (x : Notify) : (s.withNotify x).pending = s.pending := rfl

/-! ### withPort -/

@[simp] theorem State.withPort_rstn (s : State) (x : Port) : (s.withPort x).rstn = s.rstn := rfl
@[simp] theorem State.withPort_cs (s : State) (x : Port) : (s.withPort x).cs = s.cs := rfl
@[simp] theorem State.withPort_points (s : State) (x : Port) : (s.withPort x).points = s.points := rfl
@[simp] theorem State.withPort_groups (s : State) (x : Port) : (s.withPort x).groups = s.groups := rfl
@[simp] theorem State.withPort_lines (s : State) (x : Port) : (s.withPort x).lines = s.lines := rfl
@[simp] theorem State.withPort_keys (s : State) (x : Port) : (s.withPort x).keys = s.keys := rfl
@[simp] theorem State.withPort_shelf (s : State) (x : Port) : (s.withPort x).shelf = s.shelf := rfl
@[simp] theorem State.withPort_display (s : State) (x : Port) : (s.withPort x).display = s.display := rfl
@[simp] theorem State.withPort_output (s : State) (x : Port) : (s.withPort x).output = s.output := rfl
@[simp] theorem State.withPort_changes (s : State) (x : Port) : (s.withPort x).changes = s.changes := rfl
@[simp] theorem State.withPort_flags (s : State) (x : Port) : (s.withPort x).flags = s.flags := rfl
@[simp] theorem State.withPort_notify (s : State) (x : Port) : (s.withPort x).notify = s.notify := rfl
@[simp] theorem State.withPort_port (s : State) (x : Port) : (s.withPort x).port = x := rfl
@[simp] theorem State.withPort_time (s : State) (x : Port) : (s.withPort x).time = s.time := rfl
@[simp] theorem State.withPort_pending (s : State) (x : Port) : (s.withPort x).pending = s.pending := rfl

/-! ### withTime -/

@[simp] theorem State.withTime_rstn (s : State) (x : Timebase) : (s.withTime x).rstn = s.rstn := rfl
@[simp] theorem State.withTime_cs (s : State) (x : Timebase) : (s.withTime x).cs = s.cs := rfl
@[simp] theorem State.withTime_points (s : State) (x : Timebase) : (s.withTime x).points = s.points := rfl
@[simp] theorem State.withTime_groups (s : State) (x : Timebase) : (s.withTime x).groups = s.groups := rfl
@[simp] theorem State.withTime_lines (s : State) (x : Timebase) : (s.withTime x).lines = s.lines := rfl
@[simp] theorem State.withTime_keys (s : State) (x : Timebase) : (s.withTime x).keys = s.keys := rfl
@[simp] theorem State.withTime_shelf (s : State) (x : Timebase) : (s.withTime x).shelf = s.shelf := rfl
@[simp] theorem State.withTime_display (s : State) (x : Timebase) : (s.withTime x).display = s.display := rfl
@[simp] theorem State.withTime_output (s : State) (x : Timebase) : (s.withTime x).output = s.output := rfl
@[simp] theorem State.withTime_changes (s : State) (x : Timebase) : (s.withTime x).changes = s.changes := rfl
@[simp] theorem State.withTime_flags (s : State) (x : Timebase) : (s.withTime x).flags = s.flags := rfl
@[simp] theorem State.withTime_notify (s : State) (x : Timebase) : (s.withTime x).notify = s.notify := rfl
@[simp] theorem State.withTime_port (s : State) (x : Timebase) : (s.withTime x).port = s.port := rfl
@[simp] theorem State.withTime_time (s : State) (x : Timebase) : (s.withTime x).time = x := rfl
@[simp] theorem State.withTime_pending (s : State) (x : Timebase) : (s.withTime x).pending = s.pending := rfl

/-! ### withPins -/

@[simp] theorem State.withPins_rstn (s : State) (r c : Bool) : (s.withPins r c).rstn = r := rfl
@[simp] theorem State.withPins_cs (s : State) (r c : Bool) : (s.withPins r c).cs = c := rfl
@[simp] theorem State.withPins_points (s : State) (r c : Bool) : (s.withPins r c).points = s.points := rfl
@[simp] theorem State.withPins_groups (s : State) (r c : Bool) : (s.withPins r c).groups = s.groups := rfl
@[simp] theorem State.withPins_lines (s : State) (r c : Bool) : (s.withPins r c).lines = s.lines := rfl
@[simp] theorem State.withPins_keys (s : State) (r c : Bool) : (s.withPins r c).keys = s.keys := rfl
@[simp] theorem State.withPins_shelf (s : State) (r c : Bool) : (s.withPins r c).shelf = s.shelf := rfl
@[simp] theorem State.withPins_display (s : State) (r c : Bool) : (s.withPins r c).display = s.display := rfl
@[simp] theorem State.withPins_output (s : State) (r c : Bool) : (s.withPins r c).output = s.output := rfl
@[simp] theorem State.withPins_changes (s : State) (r c : Bool) : (s.withPins r c).changes = s.changes := rfl
@[simp] theorem State.withPins_flags (s : State) (r c : Bool) : (s.withPins r c).flags = s.flags := rfl
@[simp] theorem State.withPins_notify (s : State) (r c : Bool) : (s.withPins r c).notify = s.notify := rfl
@[simp] theorem State.withPins_port (s : State) (r c : Bool) : (s.withPins r c).port = s.port := rfl
@[simp] theorem State.withPins_time (s : State) (r c : Bool) : (s.withPins r c).time = s.time := rfl
@[simp] theorem State.withPins_pending (s : State) (r c : Bool) : (s.withPins r c).pending = s.pending := rfl

/-! ### restHorns: only the waves move -/

@[simp] theorem restHorns_rstn (s : State) : (restHorns s).rstn = s.rstn := rfl
@[simp] theorem restHorns_cs (s : State) : (restHorns s).cs = s.cs := rfl
@[simp] theorem restHorns_points (s : State) : (restHorns s).points = s.points := rfl
@[simp] theorem restHorns_groups (s : State) : (restHorns s).groups = s.groups := rfl
@[simp] theorem restHorns_lines (s : State) : (restHorns s).lines = s.lines := rfl
@[simp] theorem restHorns_keys (s : State) : (restHorns s).keys = s.keys := rfl
@[simp] theorem restHorns_shelf (s : State) : (restHorns s).shelf = s.shelf := rfl
@[simp] theorem restHorns_display (s : State) : (restHorns s).display = s.display := rfl
@[simp] theorem restHorns_changes (s : State) : (restHorns s).changes = s.changes := rfl
@[simp] theorem restHorns_flags (s : State) : (restHorns s).flags = s.flags := rfl
@[simp] theorem restHorns_notify (s : State) : (restHorns s).notify = s.notify := rfl
@[simp] theorem restHorns_port (s : State) : (restHorns s).port = s.port := rfl
@[simp] theorem restHorns_time (s : State) : (restHorns s).time = s.time := rfl
@[simp] theorem restHorns_pending (s : State) : (restHorns s).pending = s.pending := rfl
@[simp] theorem restHorns_gap (s : State) : (restHorns s).output.gap = s.output.gap := rfl
@[simp] theorem restHorns_retrigger (s : State) : (restHorns s).output.retrigger = s.output.retrigger := rfl
@[simp] theorem restHorns_horn1 (s : State) :
    (restHorns s).output.horn1 = if sounding s .horn1 then s.output.horn1 else s.output.horn1.atRest := rfl
@[simp] theorem restHorns_horn2 (s : State) :
    (restHorns s).output.horn2 = if sounding s .horn2 then s.output.horn2 else s.output.horn2.atRest := rfl

/-! ### pointEventWith: what one event of the point table keeps -/

@[simp] theorem pointEventWith_rstn (l : List Nat) (a : Asked) (f : Point → Moved) (s : State) :
    (pointEventWith l a f s).rstn = s.rstn := rfl
@[simp] theorem pointEventWith_cs (l : List Nat) (a : Asked) (f : Point → Moved) (s : State) :
    (pointEventWith l a f s).cs = s.cs := rfl
@[simp] theorem pointEventWith_lines (l : List Nat) (a : Asked) (f : Point → Moved) (s : State) :
    (pointEventWith l a f s).lines = s.lines := rfl
@[simp] theorem pointEventWith_keys (l : List Nat) (a : Asked) (f : Point → Moved) (s : State) :
    (pointEventWith l a f s).keys = s.keys := rfl
@[simp] theorem pointEventWith_shelf (l : List Nat) (a : Asked) (f : Point → Moved) (s : State) :
    (pointEventWith l a f s).shelf = s.shelf := rfl
@[simp] theorem pointEventWith_display (l : List Nat) (a : Asked) (f : Point → Moved) (s : State) :
    (pointEventWith l a f s).display = s.display := rfl
@[simp] theorem pointEventWith_flags (l : List Nat) (a : Asked) (f : Point → Moved) (s : State) :
    (pointEventWith l a f s).flags = s.flags := rfl
@[simp] theorem pointEventWith_notify (l : List Nat) (a : Asked) (f : Point → Moved) (s : State) :
    (pointEventWith l a f s).notify = s.notify := rfl
@[simp] theorem pointEventWith_port (l : List Nat) (a : Asked) (f : Point → Moved) (s : State) :
    (pointEventWith l a f s).port = s.port := rfl
@[simp] theorem pointEventWith_time (l : List Nat) (a : Asked) (f : Point → Moved) (s : State) :
    (pointEventWith l a f s).time = s.time := rfl
@[simp] theorem pointEventWith_pending (l : List Nat) (a : Asked) (f : Point → Moved) (s : State) :
    (pointEventWith l a f s).pending = s.pending := rfl
@[simp] theorem pointEventWith_points (l : List Nat) (a : Asked) (f : Point → Moved) (s : State) :
    (pointEventWith l a f s).points = s.points.map fun p => (f p).point := by simp [pointEventWith, Function.comp_def]
@[simp] theorem pointEventWith_groups (l : List Nat) (a : Asked) (f : Point → Moved) (s : State) :
    (pointEventWith l a f s).groups = s.groups.map (decideGroup (s.points.map f) a) := rfl
@[simp] theorem pointEventWith_horn (l : List Nat) (a : Asked) (f : Point → Moved) (s : State) (h : HornId) :
    (pointEventWith l a f s).output.horn h = s.output.horn h := by cases h <;> rfl
@[simp] theorem pointEventWith_retrigger (l : List Nat) (a : Asked) (f : Point → Moved) (s : State) :
    (pointEventWith l a f s).output.retrigger = s.output.retrigger := rfl
@[simp] theorem pointEventWith_gap (l : List Nat) (a : Asked) (f : Point → Moved) (s : State) :
    (pointEventWith l a f s).output.gap = gapAfter s ((s.points.map f).any Moved.alert) := rfl

/-- An event that asks nothing and posts in ascending order. -/
@[simp] theorem pointEvent_eq (f : Point → Moved) (s : State) : pointEvent f s = pointEventWith [] .nothing f s := rfl

end Sys2Proof.Machine
end

