-- ==== Sys2Proof/Laws/Ops.lean ====
section
/-! SUPPORT. For each shared operation, once, what it can do: the arrivals, a taken condition, the end of an event, the taking
of a host command, posting, and an event that is not due. -/

namespace Sys2Proof.Machine

/-! ### One point -/

/-- An arrival changes nothing, or moves the point to the state it leads to with the silenced flag clear (R24, R31). -/
theorem arrive_cases (a : Arrival) (p : Point) :
    (respond p.defn.sequence p.run.condition p.run.state a = none ∧ arrive a p = .still p) ∨
    ∃ st, respond p.defn.sequence p.run.condition p.run.state a = some st ∧
      arrive a p =
        { point := { p with run := { p.run with state := st, silenced := false } }
          changed := true, alert := st == .alert, post := true } := by
  unfold arrive
  cases h : respond p.defn.sequence p.run.condition p.run.state a with
  | none => exact .inl ⟨rfl, rfl⟩
  | some st => exact .inr ⟨st, rfl, rfl⟩

/-- An arrival that leads anywhere leads to another state (R25, R28, R30). -/
theorem respond_ne (sq : SequenceType) (c : Condition) (st st' : PointState) (a : Arrival) :
    respond sq c st a = some st' → st' ≠ st := by
  cases a <;> cases st <;> cases sq <;> cases c <;> simp [respond, restState] <;> rintro rfl <;> simp

/-- An arrival keeps the definition, so the point keeps its number and its group. -/
@[simp] theorem arrive_defn (a : Arrival) (p : Point) : (arrive a p).point.defn = p.defn := by
  obtain ⟨-, h⟩ | ⟨st, -, h⟩ := arrive_cases a p <;> rw [h] <;> rfl

/-- An arrival keeps condition, asserted value, age and stale flag. -/
@[simp] theorem arrive_condition (a : Arrival) (p : Point) : (arrive a p).point.run.condition = p.run.condition := by
  obtain ⟨-, h⟩ | ⟨st, -, h⟩ := arrive_cases a p <;> rw [h] <;> rfl
@[simp] theorem arrive_asserted (a : Arrival) (p : Point) : (arrive a p).point.run.asserted = p.run.asserted := by
  obtain ⟨-, h⟩ | ⟨st, -, h⟩ := arrive_cases a p <;> rw [h] <;> rfl
@[simp] theorem arrive_age (a : Arrival) (p : Point) : (arrive a p).point.run.age = p.run.age := by
  obtain ⟨-, h⟩ | ⟨st, -, h⟩ := arrive_cases a p <;> rw [h] <;> rfl
@[simp] theorem arrive_stale (a : Arrival) (p : Point) : (arrive a p).point.run.stale = p.run.stale := by
  obtain ⟨-, h⟩ | ⟨st, -, h⟩ := arrive_cases a p <;> rw [h] <;> rfl

/-- A condition that the point already holds brings nothing (R8). -/
theorem takeCondition_same {c : Condition} {p : Point} (h : p.run.condition = c) : takeCondition c p = .still p := by
  simp [takeCondition, h]

/-- A new condition is held from then on, and brings ABN or NRM (R8). -/
theorem takeCondition_new {c : Condition} {p : Point} (h : p.run.condition ≠ c) :
    takeCondition c p = arrive c.arrival { p with run := { p.run with condition := c } } := by
  simp [takeCondition, h]

/-- Whatever it brings, the condition delivered is the one held afterwards (R8). -/
@[simp] theorem takeCondition_condition (c : Condition) (p : Point) : (takeCondition c p).point.run.condition = c := by
  by_cases h : p.run.condition = c
  · rw [takeCondition_same h]; exact h
  · rw [takeCondition_new h]; simp

@[simp] theorem takeCondition_defn (c : Condition) (p : Point) : (takeCondition c p).point.defn = p.defn := by
  by_cases h : p.run.condition = c
  · rw [takeCondition_same h]; rfl
  · rw [takeCondition_new h]; simp

@[simp] theorem takeAgeing_defn (v : Condition) (n : Nat) (b : Bool) (p : Point) :
    (takeAgeing v n b p).point.defn = p.defn := by simp [takeAgeing]

@[simp] theorem refresh_defn (p : Point) : (refresh p).point.defn = p.defn := by
  by_cases h : p.defn.source = .host <;> simp [refresh, h, Moved.still]

theorem onlyPoint_self {n : Nat} {f : Point → Moved} {p : Point} (h : p.number = n) : onlyPoint n f p = f p := by
  simp [onlyPoint, h]
theorem onlyPoint_other {n : Nat} {f : Point → Moved} {p : Point} (h : p.number ≠ n) : onlyPoint n f p = .still p := by
  simp [onlyPoint, h]

/-! ### Posting -/

/-- A post keeps every entry's place and appends at the tail (R171). -/
theorem post_points (ns : List Nat) (es : List ChangeEntry) :
    (post ns es).map ChangeEntry.point =
      es.map ChangeEntry.point ++ ns.filter fun n => !es.any fun e => e.point == n := by
  simp only [post, List.map_append, List.map_map]
  congr 1
  · apply List.map_congr_left
    intro e _
    simp only [Function.comp]
    split <;> rfl
  · simp [Function.comp_def]

@[simp] theorem post_nil (es : List ChangeEntry) : post [] es = es := by simp [post]

/-! ### The end of an event, and the taking -/

/-- Where a horn that does not sound is at rest already, the end of an event changes nothing (R145). -/
theorem restHorns_of_wavesOk {s : State} (h : WavesOk s) : restHorns s = s := by
  obtain ⟨h1, h2⟩ := h
  have e1 : (if sounding s .horn1 then s.output.horn1 else s.output.horn1.atRest) = s.output.horn1 := by
    by_cases hs : sounding s .horn1 = true
    · simp [hs]
    · have := h1 (by simpa using hs)
      simp [hs, Horn.atRest, ← this]
  have e2 : (if sounding s .horn2 then s.output.horn2 else s.output.horn2.atRest) = s.output.horn2 := by
    by_cases hs : sounding s .horn2 = true
    · simp [hs]
    · have := h2 (by simpa using hs)
      simp [hs, Horn.atRest, ← this]
  unfold restHorns State.withOutput
  rw [e1, e2]

/-- The port plays no part in whether a horn sounds. -/
@[simp] theorem sounding_withPort (s : State) (p : Port) (h : HornId) : sounding (s.withPort p) h = sounding s h := rfl
@[simp] theorem sounding_withFlags (s : State) (f : StickyFlags) (h : HornId) : sounding (s.withFlags f) h = sounding s h := rfl
@[simp] theorem sounding_withChanges (s : State) (c : List ChangeEntry) (h : HornId) :
    sounding (s.withChanges c) h = sounding s h := rfl
@[simp] theorem sounding_withNotify (s : State) (n : Notify) (h : HornId) : sounding (s.withNotify n) h = sounding s h := rfl
@[simp] theorem sounding_withDisplay (s : State) (d : Display) (h : HornId) :
    sounding (s.withDisplay d) h = sounding s h := rfl

/-- Whether a horn sounds does not turn on the waves, so the end of an event leaves it as it is. -/
@[simp] theorem sounding_restHorns (s : State) (h : HornId) : sounding (restHorns s) h = sounding s h := by
  cases h
  · unfold sounding
    simp only [Output.horn, restHorns_horn1, restHorns_time]
    congr 2
    by_cases hs : sounding s .horn1 = true <;> simp [hs, Horn.atRest]
  · unfold sounding
    simp only [Output.horn, restHorns_horn2, restHorns_time]
    congr 2
    by_cases hs : sounding s .horn2 = true <;> simp [hs, Horn.atRest]

/-- The end of an event leaves every horn that does not sound at rest. -/
theorem wavesOk_restHorns (s : State) : WavesOk (restHorns s) := by
  constructor <;> intro h <;> rw [sounding_restHorns] at h <;> simp [h, Horn.atRest]

/-- Ending an event twice is ending it once. -/
@[simp] theorem restHorns_restHorns (s : State) : restHorns (restHorns s) = restHorns s :=
  restHorns_of_wavesOk (wavesOk_restHorns s)

/-- A command that meets a transaction at its start is taken (R160). -/
theorem atTaking_open {s : State} (h : PortOpen s) (take : State → State) : atTaking take s = .next (take s) := by
  simp only [atTaking, if_pos h]

/-- A command that meets none has no effect (log 1, log 3). -/
theorem atTaking_closed {s : State} (h : ¬ PortOpen s) (take : State → State) : atTaking take s = .next s := by
  simp only [atTaking, if_neg h]

theorem unlessBusy_ready {s : State} (h : isReady s = true) (effect : State → Answer) : unlessBusy effect s = effect s := by
  simp [unlessBusy, h]
theorem unlessBusy_settling {s : State} (h : isReady s = false) (effect : State → Answer) :
    unlessBusy effect s = .refuse s .busy := by
  simp [unlessBusy, h]

/-- A taking whose effect changes nothing the horns read answers with the status and the results alone. -/
theorem taken_still {s : State} {effect : State → Answer} {bytes results : List Byte} {st : Status} (hw : WavesOk s)
    (h : effect s = { status := st, results := results, state := s }) : taken bytes effect s = answered s bytes st results := by
  have hw' : WavesOk (answered s bytes st results) := hw
  simp only [taken, h]
  exact restHorns_of_wavesOk hw'

/-- A refused command answers its status and has no effect (R165). -/
theorem taken_refused {s : State} {effect : State → Answer} {bytes : List Byte} {st : Status} (hw : WavesOk s)
    (h : effect s = .refuse s st) : taken bytes effect s = answered s bytes st [] := taken_still hw h

/-- A read answers its results and has no effect (R160). -/
theorem taken_read {s : State} {effect : State → Answer} {bytes results : List Byte} (hw : WavesOk s)
    (h : effect s = .read s results) : taken bytes effect s = answered s bytes .ok results := taken_still hw h

/-! ### Events that are not due -/

theorem chatterExpiry_idle {s : State} (h : chatterDue s = false) : chatterExpiry s = s := by simp [chatterExpiry, h]
theorem leaseExpiry_idle {s : State} (h : leaseDue s = false) : leaseExpiry s = s := by simp [leaseExpiry, h]
theorem minuteExpiry_idle {s : State} (h : minuteDue s = false) : minuteExpiry s = s := by simp [minuteExpiry, h]
theorem settleEnd_idle {s : State} (h : settleDue s = false) : settleEnd s = s := by simp [settleEnd, h]
theorem gapEnd_idle {s : State} (h : gapDue s = false) : gapEnd s = s := by simp [gapEnd, h]
theorem warmUpEnd_idle {s : State} (h : warmUpDue s = false) : warmUpEnd s = s := by simp [warmUpEnd, h]
theorem takeWrap_idle {s : State} (h : s.time.wrapDue = false) : takeWrap s = s := by simp [takeWrap, h]
theorem frameBoundary_idle {s : State} (h : s.time.frameDue = false) : frameBoundary s = s := by simp [frameBoundary, h]

/-- A frame boundary replaces the commons in effect and the image, and nothing else (R132). -/
theorem takeFrame_frame (c : Nat) (s : State) :
    takeFrame c s = { s with
      display := { s.display with commons := s.display.commonsPending, image := (takeFrame c s).display.image } } := by
  simp only [takeFrame]
  split <;> rfl

theorem halfWaveEnd_idle {h : HornId} {s : State} (d : halfWaveDue s h = false) : halfWaveEnd h s = s := by
  simp [halfWaveEnd, d]
theorem keyAction_idle {k : ActionKey} {s : State} (h : (s.keys.record k).due = false) : keyAction k s = s := by
  simp [keyAction, h]

/-- Without a chatter-window expiry and without a line to hand over, the tick brings no batch (R73). -/
theorem conditionBatch_idle {s : State} (hc : chatterDue s = false) (hb : isReady s = true → batchOf s.lines = []) :
    conditionBatch s = s := by
  by_cases hr : isReady s = true
  · simp [conditionBatch, hr, chatterExpiry_idle hc, hb hr]
  · simp [conditionBatch, hr]

/-- Where nothing is due, time goes on at once (log 2). -/
theorem takeDue_idle {s : State} (hn : NothingDue s) (hw : WavesOk s) : takeDue s = s := by
  obtain ⟨hc, hb, ha, hs, hk, hl, hm, he, hg, hu, hr, hf, h1, h2⟩ := hn
  simp only [takeDue, dueEvents, List.foldl_cons, List.foldl_nil, chatterExpiry_idle hc, conditionBatch_idle hc hb,
    keyAction_idle (k := .ack) ha, keyAction_idle (k := .silence) hs, keyAction_idle (k := .clear) hk, leaseExpiry_idle hl,
    minuteExpiry_idle hm, settleEnd_idle he, gapEnd_idle hg, warmUpEnd_idle hu, takeWrap_idle hr, frameBoundary_idle hf,
    halfWaveEnd_idle h1, halfWaveEnd_idle h2, restHorns_of_wavesOk hw]

end Sys2Proof.Machine
end

