-- ==== Sys2Proof/Laws/PerInstr.lean ====
section
/-! SUPPORT. Per-instruction families: `FrameRoundTrip` says that the bytes by which the host sends a command read as that
command (R159, R181, R182). An event that is no host command has no bytes. -/

namespace Sys2Proof.Laws.FrameRoundTrip

/-- The bytes of a well-formed command, where it has any, read as the command. -/
def Statement (i : Instr) : Prop := i.WellFormed → ∀ bytes, hostBytes i = some bytes → decodeFrame bytes = .command i

/-- A command without bytes has nothing to read. -/
theorem of_none {i : Instr} (h : hostBytes i = none) : Statement i := by
  intro _ bytes hb
  rw [h] at hb
  cases hb

/-- A command with bytes reads as itself when those bytes do. -/
theorem of_bytes {i : Instr} {bs : List Byte} (hb : hostBytes i = some bs) (h : decodeFrame bs = .command i) : Statement i := by
  intro _ bytes hb'
  rw [hb] at hb'
  cases hb'
  exact h

/-- A definition block with the cell bytes of its cell count is read back whole (R159, R182). -/
theorem blockOf_blockBytes {b : DefBlock} (h : b.WellFormed) : blockOf (blockBytes b) = some b := by
  cases b
  simp only [blockBytes, blockOf]
  exact if_pos h

theorem readStatus : Statement .readStatus := of_bytes rfl rfl
theorem readChanges (maximum : Byte) : Statement (.readChanges maximum) := of_bytes rfl rfl
theorem configureNotify (changes errors : Byte) : Statement (.configureNotify changes errors) := of_bytes rfl rfl
theorem echo (value : Byte) : Statement (.echo value) := of_bytes rfl rfl
theorem restart : Statement .restart := of_bytes rfl rfl
theorem resetDevice : Statement .resetDevice := of_bytes rfl rfl
theorem definePoint (block : DefBlock) : Statement (.definePoint block) := by
  intro hw
  have h : block.WellFormed := of_decide_eq_true hw
  refine of_bytes (bs := 0x10 :: blockBytes block) rfl ?_ hw
  simp [decodeFrame, arity, blockOf_blockBytes h]
theorem modifyPoint (block : DefBlock) : Statement (.modifyPoint block) := by
  intro hw
  have h : block.WellFormed := of_decide_eq_true hw
  refine of_bytes (bs := 0x11 :: blockBytes block) rfl ?_ hw
  simp [decodeFrame, arity, blockOf_blockBytes h]
theorem retirePoint (point : Byte) : Statement (.retirePoint point) := of_bytes rfl rfl
theorem readPoint (point : Byte) : Statement (.readPoint point) := of_bytes rfl rfl
theorem readDefined : Statement .readDefined := of_bytes rfl rfl
theorem assert (point value : Byte) : Statement (.assert point value) := of_bytes rfl rfl
theorem refreshAll : Statement .refreshAll := of_bytes rfl rfl
theorem configureLease (interval : Byte) : Statement (.configureLease interval) := of_bytes rfl rfl
theorem acknowledge (scope : Byte) : Statement (.acknowledge scope) := of_bytes rfl rfl
theorem silence (scope : Byte) : Statement (.silence scope) := of_bytes rfl rfl
theorem clear (scope : Byte) : Statement (.clear scope) := of_bytes rfl rfl
theorem shelve (point minutes : Byte) : Statement (.shelve point minutes) := of_bytes rfl rfl
theorem unshelve (point : Byte) : Statement (.unshelve point) := of_bytes rfl rfl
theorem readShelf : Statement .readShelf := of_bytes rfl rfl
theorem configureGroup (group enable release : Byte) : Statement (.configureGroup group enable release) := of_bytes rfl rfl
theorem releaseGroup (group : Byte) : Statement (.releaseGroup group) := of_bytes rfl rfl
theorem readGroup (group : Byte) : Statement (.readGroup group) := of_bytes rfl rfl
theorem configureInput (line enable normalLevel filter chatterLimit : Byte) : Statement (.configureInput line enable normalLevel filter chatterLimit) := of_bytes rfl rfl
theorem readInputs : Statement .readInputs := of_bytes rfl rfl
theorem configureKeys (ack silence clear test : Byte) : Statement (.configureKeys ack silence clear test) := of_bytes rfl rfl
theorem configureDisplay (power commons quiet : Byte) : Statement (.configureDisplay power commons quiet) := of_bytes rfl rfl
theorem setOverride (test : Byte) : Statement (.setOverride test) := of_bytes rfl rfl
theorem readCells (first count : Byte) : Statement (.readCells first count) := of_bytes rfl rfl
theorem configureHorn (horn enable tone retrigger : Byte) : Statement (.configureHorn horn enable tone retrigger) := of_bytes rfl rfl
theorem readOutputs : Statement .readOutputs := of_bytes rfl rfl
theorem unknownCommand (code : Byte) : Statement (.unknownCommand code) := by
  intro hw
  have h : UnknownCode code := of_decide_eq_true hw
  refine of_bytes (bs := [code]) rfl ?_ hw
  simp [decodeFrame, h]
theorem csFall : Statement .csFall := of_none rfl
theorem csRise : Statement .csRise := of_none rfl
theorem pinReset : Statement .pinReset := of_none rfl
theorem rstnRelease : Statement .rstnRelease := of_none rfl
theorem tick (lines : BitVec 24) (keys : BitVec 4) : Statement (.tick lines keys) := of_none rfl
theorem conditionBatch : Statement .conditionBatch := of_none rfl
theorem keyAction (key : ActionKey) : Statement (.keyAction key) := of_none rfl
theorem chatterWindowExpiry : Statement .chatterWindowExpiry := of_none rfl
theorem leaseExpiry : Statement .leaseExpiry := of_none rfl
theorem minuteExpiry : Statement .minuteExpiry := of_none rfl
theorem wrap : Statement .wrap := of_none rfl
theorem frameBoundary : Statement .frameBoundary := of_none rfl
theorem warmUpEnd : Statement .warmUpEnd := of_none rfl
theorem gapEnd : Statement .gapEnd := of_none rfl
theorem settleEnd : Statement .settleEnd := of_none rfl
theorem sckRisingEdge (si : Bool) : Statement (.sckRisingEdge si) := of_none rfl
theorem refclkPeriod (lines : BitVec 24) (keys : BitVec 4) : Statement (.refclkPeriod lines keys) := of_none rfl
theorem halfWaveEnd (horn : HornId) : Statement (.halfWaveEnd horn) := of_none rfl

end Sys2Proof.Laws.FrameRoundTrip
end

