-- ==== Sys2Proof/Tests/Slice0.lean ====
section
/-! SUPPORT. Tests: terms that WellFormed refuses, worked examples of the spec one step at a time, and, for every statement
with hypotheses, states and operands that meet them (each clause at values where it applies). -/

namespace Sys2Proof.Tests

open Sys2Proof.Machine

/-! ### Helpers -/

/-- The state after a command. -/
def after (i : Instr) (s : State) : State :=
  match exec i s with
  | .next t => t
  | .fault _ => s
  | .refused _ => s

/-- The status and results that the transaction in progress holds. -/
def replyOf (s : State) : List Byte := ((s.port.transaction.bind Transaction.reply).getD [])

/-- A READY part whose port has a transaction at its start. -/
def ready : State :=
  { State.reset with cs := false, port := .active .fresh, time := { State.reset.time with device := .ready, prescaler := 5 } }

/-- A definition block: point number, source byte, sequence byte, group, attributes, one cell. -/
def block (n source sequence group attrs cell : Byte) : DefBlock := ⟨n, source, sequence, group, attrs, 1, [cell]⟩

/-- A point record with one cell. -/
def record (n : Nat) (source : Source) (sequence : SequenceType) (group : Nat) (state : PointState) (c : Condition) : Point :=
  { defn :=
      { number := n, source := source, sequence := sequence, group := group, priority := 1 + n % 4, audible := true
        shelvable := decide (n ≠ 0), cells := [n] }
    run := { newRuntime with state := state, condition := c, asserted := if source = .host then c else .normal } }

/-- A panel with a point in every state, a captured group, a listed and a shelved point; line 0 tracks ABNORMAL. -/
def panel : State :=
  { ready with
    points :=
      [record 0 (.line 0) .auto 1 .alert .abnormal, record 1 .host .lock 1 .hold .normal,
        record 2 .host .ringback 2 .returned .normal,
        { record 3 .host .auto 0 .normal .normal with run := { newRuntime with age := 2 } },
        record 4 .host .auto 2 .shelved .abnormal, record 5 .host .lock 1 .cleared .normal,
        record 6 .host .auto 0 .acked .abnormal, record 63 .host .auto 8 .normal .normal]
    groups :=
      [{ number := 1, enabled := true, release := .auto, state := .captured 0 },
        { number := 2, enabled := true, release := .manual, state := .armed }] ++
        (List.range 6).map fun k => Group.initial (k + 3)
    lines :=
      { Line.initial 0 with mode := .tracking, raw := .high, filtered := .abnormal, handed := .abnormal } ::
        (List.range 23).map fun k => Line.initial (k + 1)
    shelf := [{ point := 4, remaining := 1 }]
    changes := [{ point := 4, inFlight := false }]
    time := { ready.time with leaseInterval := 1 } }

/-- The panel with the timebase changed. -/
def timed (f : Timebase → Timebase) : State := { panel with time := f panel.time }

/-- The panel with its transaction changed. -/
def inTransaction (t : Transaction) : State := { panel with port := .active t }

/-- A transaction whose command has been taken. -/
def answeredWith (bytes : List Byte) (positions : Nat) : Transaction :=
  { received := bytes, shift := 0, edges := 0, positions := positions, reply := some [0] }

/-- The part while RSTN is low, with CS low. -/
def held : State := { State.reset with rstn := false, cs := false }

/-! ### Terms that WellFormed refuses (R159, R163) -/

theorem test_wellFormed_refuses_missing_cells : ¬ (Instr.definePoint ⟨0, 0x80, 0, 0, 1, 2, [7]⟩).WellFormed := by decide
theorem test_wellFormed_refuses_cells_of_bad_count : ¬ (Instr.modifyPoint ⟨0, 0x80, 0, 0, 1, 5, [1, 2, 3, 4, 5]⟩).WellFormed := by
  decide
theorem test_wellFormed_accepts_bad_count_without_cells : (Instr.definePoint ⟨0, 0x80, 0, 0, 1, 5, []⟩).WellFormed := by decide
theorem test_wellFormed_refuses_known_code : ¬ (Instr.unknownCommand 0x49).WellFormed := by decide
theorem test_illFormed_stops : exec (.unknownCommand 0x49) ready = .refused .illFormed := rfl
theorem test_no_word_spells_a_command : ready.withFetchWord 8 0x01 = ready := by decide

/-! ### The bytes of commands (R159, R181, R182) -/

theorem test_frame_acknowledge : decodeFrame [0x20, 0xFF] = .command (.acknowledge 0xFF) := by decide
theorem test_frame_needs_its_operands : decodeFrame [0x38, 0, 1, 0, 8] = .incomplete := by decide
theorem test_frame_define_waits_for_two_cells :
    decodeFrame [0x10, 2, 0x80, 0, 1, 0xC1, 2, 9] = .incomplete ∧
      decodeFrame [0x10, 2, 0x80, 0, 1, 0xC1, 2, 9, 8] = .command (.definePoint ⟨2, 0x80, 0, 1, 0xC1, 2, [9, 8]⟩) := by decide
theorem test_frame_bad_cell_count_ends_the_block :
    decodeFrame [0x11, 2, 0x80, 0, 1, 0xC1, 5] = .command (.modifyPoint ⟨2, 0x80, 0, 1, 0xC1, 5, []⟩) := by decide
theorem test_frame_unknown_code : decodeFrame [0x04] = .command (.unknownCommand 0x04) := by decide

/-! ### One command at a time -/

/-- 9.7, One acknowledge: points 2 and 7 in ALERT, 7 listed; the count is 2 and the list becomes 7, 2. -/
theorem test_acknowledge_example :
    let s := { ready with
      points := [record 2 .host .auto 0 .alert .abnormal, record 7 .host .lock 0 .alert .abnormal]
      changes := [{ point := 7, inFlight := false }] }
    let t := after (.acknowledge 0xFF) s
    replyOf t = [0x00, 0x02] ∧ t.changes.map ChangeEntry.point = [7, 2] ∧ t.points.map Point.state = [.acked, .acked] := by
  decide

/-- 9.7, A read overtaken by a batch: CS rises after position 9; 12 goes, 19 was posted again, entry 3 is incomplete. -/
theorem test_csRise_example :
    let s := { ready with
      port := .active (answeredWith [0x02, 3] 9)
      changes := [⟨12, true⟩, ⟨19, false⟩, ⟨30, true⟩, ⟨44, false⟩, ⟨51, false⟩] }
    (after .csRise s).changes = [⟨19, false⟩, ⟨30, false⟩, ⟨44, false⟩, ⟨51, false⟩] := by decide

theorem test_csRise_truncated_sets_flag : (after .csRise ready).flags.truncated = ⟨true, false⟩ := by decide
theorem test_csFall_begins_transaction : (after .csFall { ready with cs := true, port := .idle }).port = .active .fresh := by decide
/-- The bits 0010101 and then 0 spell 0x2A, READ-SHELF, which is taken at the eighth edge; with 1 they spell an unknown code. -/
theorem test_sck_eighth_edge_takes :
    let s := { ready with port := .active { Transaction.fresh with shift := 0x15, edges := 7 } }
    replyOf (after (.sckRisingEdge false) s) = [0x00, 0x00] ∧ replyOf (after (.sckRisingEdge true) s) = [0x02] := by decide
theorem test_readStatus_reports_ready : replyOf (after .readStatus ready) = [0, 0x80, 0, 0, 0, 0, 0] := by decide
theorem test_readStatus_of_panel : (replyOf (after .readStatus panel)).take 5 = [0, 0x80, 1, 1, 2] := by decide
theorem test_readChanges_reports_shelved : replyOf (after (.readChanges 16) panel) = [0, 1, 4, 0x26] := by decide
theorem test_configureNotify_raises_irq : irq (after (.configureNotify 1 0) panel) = true := by decide
theorem test_echo_inverts : replyOf (after (.echo 0xA5) ready) = [0x00, 0xA5, 0x5A] := by decide
theorem test_unknown_code_status : replyOf (after (.unknownCommand 0x77) ready) = [0x02] := by decide
theorem test_restart_settles : isReady (after .restart panel) = false ∧ (after .restart panel).changes = [] := by decide
theorem test_resetDevice_waits_for_csRise :
    (after .resetDevice panel).points = panel.points ∧ (after .csRise (after .resetDevice panel)).points = [] := by decide
theorem test_pinReset_drops_transaction : after .pinReset panel = { held with pending := [] } := by decide
theorem test_rstnRelease_ignores_low_cs : (after .rstnRelease held).port = .ignoring := by decide
/-- A point defined on an abnormal line enters ALERT, is posted, and finds its group captured by another (R11, R12). -/
theorem test_define_on_abnormal_line :
    let t := after (.definePoint (block 9 0 0 1 0xC1 7)) panel
    ((pointAt t 9).map Point.state = some .alert) ∧ t.changes.map ChangeEntry.point = [4, 9] ∧
      (groupAt t 1).state = .captured 0 := by decide
/-- R12: on the tick that turns line 1 abnormal, a DEFINE-POINT before the batch takes the old state, and the batch then brings
the ALERT; after the batch it takes the new state. -/
theorem test_define_and_batch_in_either_order :
    let s := { panel with
      lines := panel.lines.map fun L => if L.number = 1 then { L with mode := .tracking, filtered := .abnormal } else L }
    let define := Instr.definePoint (block 9 1 0 2 0xC1 7)
    let again (t : State) : State := { t with port := .active .fresh }
    (pointAt (after define s) 9).map Point.state = some .normal ∧
      (pointAt (after .conditionBatch (after define s)) 9).map Point.state = some .alert ∧
      (pointAt (after define (again (after .conditionBatch s))) 9).map Point.state = some .alert := by decide
theorem test_define_occupied_before_range : replyOf (after (.definePoint (block 0 0x55 9 9 0 200)) panel) = [0x05] := by decide
theorem test_modify_refused_while_alert : replyOf (after (.modifyPoint (block 0 0x80 0 1 0x81 0)) panel) = [0x06] := by decide
theorem test_retire_shelved_removes_entry : (after (.retirePoint 4) panel).shelf = [] := by decide
theorem test_readPoint_bytes :
    replyOf (after (.readPoint 4) panel) = [0, 4, 0x80, 0, 2, 0xC1, 1, 4, 0x1E, 0, 1] := by decide
theorem test_readDefined_map : replyOf (after .readDefined panel) = [0, 0x7F, 0, 0, 0, 0, 0, 0, 0x80] := by decide
theorem test_assert_line_point_refused : replyOf (after (.assert 0 1) panel) = [0x07] := by decide
/-- An ABN from HOLD is a fresh alarm; the captured group drops its offer (R25, R52). -/
theorem test_assert_from_hold :
    let t := after (.assert 1 1) panel
    ((pointAt t 1).map Point.state = some .alert) ∧ (groupAt t 1).state = .captured 0 := by decide
theorem test_refreshAll_keeps_timer :
    ((pointAt (after .refreshAll panel) 3).map fun p => p.run.age) = some 0 ∧
      (after .refreshAll panel).time = panel.time := by decide
theorem test_configureLease_restarts : (after (.configureLease 8) (timed fun t => { t with leaseCount := 5 })).time.leaseCount = 0 := by
  decide
/-- The third expiry makes the point stale: ALERT, STALE_SEEN set (R95). -/
theorem test_leaseExpiry_makes_stale :
    let t := after .leaseExpiry (timed fun t => { t with leaseCount := 128 })
    ((pointAt t 3).map Point.state = some .alert) ∧ t.flags.staleSeen.isSet = true := by decide
theorem test_silence_counts_eligible : replyOf (after (.silence 0xFF) panel) = [0, 3] := by decide
theorem test_clear_blocked_by_alert :
    let t := after (.clear 0x81) panel
    replyOf t = [0, 1] ∧ (groupAt t 1).state = .captured 0 := by decide
theorem test_keyAction_acknowledges :
    let s := { panel with keys := { panel.keys with ack := { panel.keys.ack with due := true } } }
    ((pointAt (after (.keyAction .ack) s) 0).map Point.state = some .acked) := by decide
/-- Shelving the captured point releases its group (R57); here point 1 is no captured point. -/
theorem test_shelve_places_behind_equal : (after (.shelve 1 1) panel).shelf.map ShelfEntry.point = [4, 1] := by decide
theorem test_shelve_not_shelvable : replyOf (after (.shelve 0 1) panel) = [0x08] := by decide
/-- Unshelved with its condition ABNORMAL the point is a new alarm and is captured (R30, R50). -/
theorem test_unshelve_captures : (groupAt (after (.unshelve 4) panel) 2).state = .captured 4 := by decide
theorem test_readShelf_bytes : replyOf (after .readShelf panel) = [0, 1, 4, 1] := by decide
theorem test_minuteExpiry_unshelves :
    let t := after .minuteExpiry (timed fun t => { t with minuteCount := 61440 })
    t.shelf = [] ∧ ((pointAt t 4).map Point.state = some .alert) := by decide
theorem test_configureGroup_releases_first : (after (.configureGroup 1 1 0) panel).changes.map ChangeEntry.point = [4, 0] := by
  decide
theorem test_releaseGroup_rearms : (groupAt (after (.releaseGroup 1) panel) 1).state = .armed := by decide
theorem test_readGroup_bytes : replyOf (after (.readGroup 1) panel) = [0, 0x21, 0] := by decide
/-- Disabling the abnormal line delivers NORMAL: point 0 goes to CLEARED (R79). -/
theorem test_configureInput_delivers_normal :
    ((pointAt (after (.configureInput 0 0 0 8 0) panel) 0).map Point.state = some .cleared) := by decide
theorem test_readInputs_bytes :
    replyOf (after .readInputs panel) = [0, 1, 0, 0, 1, 0, 0, 1, 0, 0, 1, 0, 0, 0, 0, 0, 0xF0] := by decide
theorem test_configureKeys_refuses : replyOf (after (.configureKeys 1 1 1 2) panel) = [0x03] := by decide
theorem test_conditionBatch_delivers :
    let s := { panel with lines := panel.lines.map fun L => if L.number = 0 then { L with filtered := .normal } else L }
    ((pointAt (after .conditionBatch s) 0).map Point.state = some .cleared) := by decide
theorem test_chatterWindow_frees_quiet_line :
    let s := { panel with
      lines := panel.lines.map fun L => if L.number = 0 then { L with mode := .chatter, chatterLimit := 2 } else L
      time := { panel.time with chatterCount := 8192 } }
    (lineAt (after .chatterWindowExpiry s) 0).mode = .tracking := by decide
theorem test_configureDisplay_warms : (after (.configureDisplay 1 3 0) panel).display.drive = .warming 0 := by decide
theorem test_setOverride_tests : testActive (after (.setOverride 1) panel) = true := by decide
/-- R122: a cell in FAST at counter value 300 is dark; FIRST is lit there. -/
theorem test_readCells_phase :
    replyOf (after (.readCells 0 1) (timed fun t => { t with cycle := 300 })) = [0, 0, 0x44, 0x01, 0x2C, 0x0D] := by decide
theorem test_warmUpEnd_activates :
    (after .warmUpEnd { panel with display := { panel.display with drive := .warming 64 } }).display.drive = .active := by decide
theorem test_frameBoundary_takes_commons :
    (after .frameBoundary { panel with
      display := { panel.display with commonsPending := 2 }, time := { panel.time with frameDue := true } }).display.commons = 2 := by
  decide
/-- The panel with the drive ACTIVE at the last REFCLK period before a frame boundary's tick, an image that lights cells 0 and 9,
and the TEST key one sample short of a qualified press. -/
def lamps : State :=
  { panel with
    display :=
      { panel.display with
        drive := .active, image := some (true :: List.replicate 8 false ++ true :: List.replicate 150 false) }
    keys := { panel.keys with test := { panel.keys.test with runCount := 19 } }
    time := { panel.time with prescaler := 31, cycle := 15 } }

/-- R134: a key test claim that the boundary's own tick brings is in the image of a boundary taken after the sampling, and not in
that of one taken ahead of it; the boundary is then not due a second time. -/
theorem test_frameBoundary_before_test_claim :
    let sampled := after (.tick 0 0x7) lamps
    let led := after (.tick 0 0x7) (after .frameBoundary lamps)
    keyTest sampled = true ∧ panelLit (after .frameBoundary sampled) 8 = true ∧ keyTest led = true ∧ panelLit led 8 = false ∧
      led.time.frameDue = false := by decide
theorem test_configureHorn_pending : (after (.configureHorn 1 1 7 0) panel).output.horn1.tonePending = some 7 := by decide
theorem test_readOutputs_bytes : replyOf (after .readOutputs panel) = [0, 0x43, 0x31, 31, 0, 31, 0, 3] := by decide
theorem test_wrap_takes_tone :
    (after .wrap { panel with
      output := { panel.output with horn2 := { panel.output.horn2 with tonePending := some 7 } }
      time := { panel.time with wrapDue := true } }).output.horn2.tone = 7 := by decide
theorem test_gapEnd_ends : (after .gapEnd { panel with output := { panel.output with gap := some 512 } }).output.gap = none := by
  decide

/-- The panel with HORN1 enabled and sounding: its wave has gone through a whole half of tone 31. -/
def loud : State :=
  { panel with
    output := { panel.output with horn1 := { panel.output.horn1 with enable := true, wave := { high := true, elapsed := 32 } } } }

theorem test_halfWaveEnd_goes_low : hornOutput loud .horn1 = true ∧ hornOutput (after (.halfWaveEnd .horn1) loud) .horn1 = false := by
  decide
theorem test_refclkPeriod_counts : (after (.refclkPeriod 0 0xF) panel).time.prescaler = 6 := by decide
/-- Filter 1: one disagreeing sample flips line 0 back to NORMAL (R69). -/
theorem test_tick_flips_line :
    let s := { panel with
      lines := panel.lines.map fun L => if L.number = 0 then { L with filter := 1 } else L
      time := { panel.time with prescaler := 31 } }
    (lineAt (after (.tick 0 0xF) s) 0).filtered = .normal ∧ (after (.tick 0 0xF) s).time.cycle = 1 := by decide
/-- R200: after RESTART with line 0 ABNORMAL its point enters ALERT at the settle end, and CMN rises without a gap. -/
theorem test_settleEnd_alerts :
    let s := after .settleEnd { after .restart panel with
      time := { panel.time with device := .settling 32, leaseInterval := 0 } }
    ((pointAt s 0).map Point.state = some .alert) ∧ cmn s = true ∧ (groupAt s 1).state = .captured 0 := by decide

/-! ### Every statement with hypotheses has a state that meets them -/

/-- What the statements about host commands ask of the state. -/
theorem test_panel_receives : Receptive panel ∧ WavesOk panel := by decide
theorem test_panel_ok : PanelOk panel := ⟨by decide, by decide, by decide, by decide⟩
theorem test_panel_inputs_ok : LinesOk panel ∧ KeysOk panel := by decide
theorem test_panel_units_ok : TimeOk panel ∧ DisplayOk panel ∧ OutputOk panel := by decide
theorem test_panel_port_ok : PortOk panel ∧ InFlightOk panel := by decide
theorem test_witness_StepKeeps : PanelOk panel ∧ step { panel with pending := [.csRise] } = .next (after .csRise panel) :=
  ⟨test_panel_ok, rfl⟩
theorem test_witness_StepKeepsSettling :
    SettlingOk State.reset ∧ isReady State.reset = false ∧
      step { State.reset with pending := [.csFall] } = .next (after .csFall State.reset) := ⟨by decide, by decide, rfl⟩
theorem test_witness_HeldWhileRstnLow : HeldInReset held ∧ held.rstn = false ∧ exec .csRise held = .next (after .csRise held) :=
  ⟨by decide, rfl, rfl⟩
theorem test_witness_PinResetAndRelease : HeldInReset held ∧ held.rstn = false ∧ panel.rstn = true := by decide
theorem test_witness_QueuePlaysNoPart : exec .refreshAll panel = .next (after .refreshAll panel) := rfl
theorem test_witness_OnlyIllFormedTermsStop : Instr.readStatus.WellFormed ∧ ¬ (Instr.unknownCommand 0x01).WellFormed := by decide
theorem test_witness_ClockedBytesTakeCommand :
    (Instr.echo 7).WellFormed ∧ hostBytes (.echo 7) = some [0x05, 7] ∧ PortOpen panel := by decide
theorem test_witness_FramesAndBytesAgree :
    decodeFrame [0x05, 7] = .command (.echo 7) ∧ decodeFrame [0x05] = .incomplete ∧ (Instr.echo 7).WellFormed ∧
      hostBytes (.echo 7) = some [0x05, 7] := by decide

/-- A SETTLING part whose port has a transaction at its start. -/
def settling : State := { ready with time := { ready.time with device := .settling 3 } }

theorem test_witness_HostCommandsGated :
    PortOpen settling ∧ WavesOk settling ∧ isReady settling = false ∧ ¬ PortOpen State.reset := by decide
theorem test_witness_TransactionEdges :
    held.rstn = false ∧ State.reset.port.transaction = none ∧
      panel.port.transaction = some .fresh ∧ Transaction.fresh.reply = none ∧ Transaction.fresh.edges < 7 ∧
      decodeFrame [0x05] = .incomplete ∧ takenBy (decodeFrame [0x01]) = some .readStatus ∧
      (inTransaction { answeredWith [0x01] 1 with edges := 7 }).port.transaction =
        some { answeredWith [0x01] 1 with edges := 7 } ∧ (answeredWith [0x01] 1).reply ≠ none := by decide
theorem test_witness_CsRiseEndsTransaction :
    WavesOk panel ∧ panel.cs = false ∧ panel.rstn = true ∧ panel.port.transaction = some .fresh ∧
      WavesOk (inTransaction (answeredWith [0x05, 7] 2)) ∧ (answeredWith [0x05, 7] 2).received.head? = some 0x05 ∧
      State.reset.cs = true ∧ WavesOk State.reset ∧ held.cs = false ∧ held.rstn = false ∧ WavesOk held := by decide
theorem test_witness_CsRiseClearsReportedFlags :
    WavesOk (inTransaction (answeredWith [0x01] 3)) ∧ (answeredWith [0x01] 3).received = [0x01] ∧
      WavesOk (inTransaction (answeredWith [0x01] 2)) ∧ (answeredWith [0x01] 2).reply ≠ none := by decide
theorem test_witness_CsRiseRemovesReadEntries :
    WavesOk (inTransaction (answeredWith [0x02, 16] 9)) ∧ (answeredWith [0x02, 16] 9).received.head? = some 0x02 ∧
      (answeredWith [0x02, 16] 9).received.length = 2 ∧ (answeredWith [0x02, 16] 9).reply ≠ none := by decide
theorem test_witness_ResetDevice :
    PortOpen panel ∧ WavesOk panel ∧
      (inTransaction (answeredWith [0x09] 1)).port.transaction = some (answeredWith [0x09] 1) ∧
      (answeredWith [0x09] 1).reply ≠ none ∧ panel.cs = false := by decide
theorem test_witness_ReadStatus : PortOpen panel ∧ WavesOk panel ∧ PanelOk panel := ⟨by decide, by decide, test_panel_ok⟩
theorem test_witness_ReadChanges :
    (Receptive panel ∧ WavesOk panel) ∧ PanelOk panel ∧ (0 : Byte).toNat = 0 ∧ 16 < (17 : Byte).toNat ∧ 1 ≤ (1 : Byte).toNat ∧
      (16 : Byte).toNat ≤ 16 ∧ panel.changes[0]? = some ⟨4, false⟩ := ⟨test_panel_receives, test_panel_ok, by decide⟩
theorem test_witness_Echo : PortOpen panel ∧ WavesOk panel ∧ isReady panel = true ∧ PortOpen settling ∧ WavesOk settling ∧
    isReady settling = false := by decide
theorem test_witness_UnknownCommandCode : UnknownCode 0x04 ∧ UnknownCode 0xFF ∧ PortOpen panel ∧ panel.cs = false ∧ WavesOk panel := by
  decide
theorem test_witness_ConfigureNotify :
    PortOpen panel ∧ WavesOk panel ∧ isReady panel = true ∧ (1 : Byte).toNat ≤ 1 ∧ 1 < (2 : Byte).toNat ∧
      PortOpen settling ∧ WavesOk settling ∧ isReady settling = false := by decide
theorem test_witness_OutputLines :
    PanelOk loud ∧ TimeOk loud ∧ PortOk loud ∧ DisplayOk loud ∧ sounding loud .horn1 = true ∧ so loud = some false ∧
      held.rstn = false ∧ so (inTransaction (answeredWith [0x01] 1)) = some false :=
  ⟨test_panel_ok, by decide, by decide, by decide, by decide, by decide, by decide, by decide⟩
/-- The clause of an ACTIVE drive: the image lights cells 0 and 9. -/
theorem test_witness_OutputLines_active :
    PanelOk lamps ∧ TimeOk lamps ∧ PortOk lamps ∧ DisplayOk lamps ∧ lamps.display.drive = .active ∧ panelLit lamps 9 = true ∧
      panelLit lamps 8 = false :=
  ⟨test_panel_ok, by decide, by decide,
    ⟨by decide, by decide, by decide, by decide, by decide, fun _ h => by cases h; rfl, by decide⟩, rfl, rfl, rfl⟩
theorem test_witness_DefinePoint :
    (Receptive panel ∧ WavesOk panel) ∧ PanelOk panel ∧ (block 9 0 0 1 0xC1 7).WellFormed ∧ 63 < (64 : Byte).toNat ∧
      pointAt panel 9 = none ∧ pointAt panel 63 ≠ none ∧ BlockInRange (block 9 0 0 1 0xC1 7) ∧
      BlockInRange (block 62 0x80 2 8 4 159) ∧ ¬ BlockInRange (block 9 0x18 0 1 0xC1 7) ∧
      ¬ BlockInRange (block 9 0x80 0 1 0xC5 7) ∧ ¬ BlockInRange (block 9 0x80 0 1 0xC1 160) :=
  ⟨test_panel_receives, test_panel_ok, by decide, by decide, by decide, by decide, by decide, by decide, by decide, by decide,
    by decide⟩
theorem test_witness_ModifyPoint :
    (Receptive panel ∧ WavesOk panel) ∧ PanelOk panel ∧ (block 3 0 1 8 0xC1 7).WellFormed ∧ BlockInRange (block 3 0 1 8 0xC1 7) ∧
      (pointAt panel 3).map Point.state = some .normal ∧ pointAt panel 9 = none ∧
      (pointAt panel 1).map Point.state = some .hold ∧ (pointAt panel 4).map Point.state = some .shelved ∧
      (definitionWritten (block 4 0x80 0 2 0x81 4)).shelvable = false ∧ ¬ BlockInRange (block 3 0x7F 1 8 0xC1 7) :=
  ⟨test_panel_receives, test_panel_ok, by decide⟩
theorem test_witness_RetirePoint :
    (Receptive panel ∧ WavesOk panel) ∧ PanelOk panel ∧ 63 < (64 : Byte).toNat ∧ pointAt panel 9 = none ∧
      (pointAt panel 0).map Point.state = some .alert ∧ (pointAt panel 3).map Point.state = some .normal ∧
      (pointAt panel 4).map Point.state = some .shelved := ⟨test_panel_receives, test_panel_ok, by decide⟩
theorem test_witness_ReadPoint :
    (Receptive panel ∧ WavesOk panel) ∧ PanelOk panel ∧ 63 < (64 : Byte).toNat ∧ pointAt panel 9 = none ∧
      (pointAt panel 63).isSome = true ∧ (pointAt panel 4).map Point.state = some .shelved :=
  ⟨test_panel_receives, test_panel_ok, by decide⟩
theorem test_witness_ReadDefined : Receptive panel ∧ WavesOk panel := test_panel_receives
theorem test_witness_Assert :
    (Receptive panel ∧ WavesOk panel) ∧ PanelOk panel ∧ 63 < (64 : Byte).toNat ∧ 1 < (2 : Byte).toNat ∧ pointAt panel 9 = none ∧
      (pointAt panel 0).map (fun p => p.defn.source) = some (.line 0) ∧
      (pointAt panel 63).map (fun p => p.defn.source) = some .host := ⟨test_panel_receives, test_panel_ok, by decide⟩
theorem test_witness_RefreshAndLease : Receptive panel ∧ PanelOk panel := ⟨test_panel_receives.1, test_panel_ok⟩
theorem test_witness_LeaseExpiry :
    WavesOk (timed fun t => { t with leaseCount := 128 }) ∧ PanelOk (timed fun t => { t with leaseCount := 128 }) ∧
      leaseDue (timed fun t => { t with leaseCount := 128 }) = true ∧ leaseDue panel = false :=
  ⟨by decide, test_panel_ok, by decide, by decide⟩
theorem test_witness_TransitionTable : Arrival.abn ≠ .shelve ∧ Arrival.abn ≠ .unshelve := by decide
theorem test_witness_Scopes :
    (Receptive panel ∧ WavesOk panel) ∧ PanelOk panel ∧ ScopeUnlisted 0x40 ∧ ScopeUnlisted 0x80 ∧ ScopeUnlisted 0x89 ∧
      ScopeUnlisted 0xFE ∧ ScopeVacant panel 9 ∧ ScopeAccepted panel 0x3F ∧ ScopeAccepted panel 0x81 ∧
      ScopeAccepted panel 0x88 ∧ ScopeAccepted panel 0xFF := ⟨test_panel_receives, test_panel_ok, by decide⟩
theorem test_witness_KeyAction :
    let s := { panel with keys := { panel.keys with clear := { panel.keys.clear with due := true } } }
    WavesOk s ∧ PanelOk s ∧ (actingKey .clear s.keys).due = true ∧ (actingKey .clear s.keys).enable = true ∧ isReady s = true ∧
      (actingKey .ack s.keys).due = false :=
  ⟨by decide, test_panel_ok, rfl, rfl, rfl, rfl⟩
theorem test_witness_KeyAction_ignored :
    let s := { panel with keys := { panel.keys with clear := { panel.keys.clear with due := true, enable := false } } }
    WavesOk s ∧ PanelOk s ∧ (actingKey .clear s.keys).due = true ∧ (actingKey .clear s.keys).enable = false :=
  ⟨by decide, test_panel_ok, rfl, rfl⟩

/-- The panel with a full shelf: points 20 to 34 stand on it beside point 4. -/
def fullShelf : State :=
  { panel with
    points :=
      (panel.points.filter fun p => p.number < 20) ++ (List.range 15).map (fun k => record (k + 20) .host .auto 0 .shelved .normal)
    shelf := { point := 4, remaining := 1 } :: (List.range 15).map fun k => { point := k + 20, remaining := 240 } }

theorem test_witness_Shelve :
    (Receptive panel ∧ WavesOk panel) ∧ PanelOk panel ∧ 240 < (241 : Byte).toNat ∧ pointAt panel 9 = none ∧
      (pointAt panel 0).map (fun p => p.defn.shelvable) = some false ∧ (pointAt panel 4).map Point.state = some .shelved ∧
      (pointAt panel 5).map (fun p => p.defn.shelvable) = some true ∧ panel.shelf.length < 16 :=
  ⟨test_panel_receives, test_panel_ok, by decide⟩
theorem test_witness_Shelve_full :
    Receptive fullShelf ∧ PanelOk fullShelf ∧ fullShelf.shelf.length = 16 ∧ (pointAt fullShelf 5).map Point.state = some .cleared :=
  ⟨by decide, ⟨by decide, by decide, by decide, by decide⟩, by decide, by decide⟩
theorem test_witness_Unshelve :
    (Receptive panel ∧ WavesOk panel) ∧ PanelOk panel ∧ 63 < (64 : Byte).toNat ∧ pointAt panel 9 = none ∧
      (pointAt panel 3).map Point.state = some .normal ∧ (pointAt panel 4).map Point.state = some .shelved :=
  ⟨test_panel_receives, test_panel_ok, by decide⟩
theorem test_witness_ReadShelf : (Receptive panel ∧ WavesOk panel) ∧ PanelOk panel := ⟨test_panel_receives, test_panel_ok⟩
theorem test_witness_MinuteExpiry :
    WavesOk (timed fun t => { t with minuteCount := 61440 }) ∧ PanelOk (timed fun t => { t with minuteCount := 61440 }) ∧
      panel.time.minuteCount < 61440 := ⟨by decide, test_panel_ok, by decide⟩
theorem test_witness_GroupCommands :
    (Receptive panel ∧ WavesOk panel) ∧ PanelOk panel ∧ (0 : Byte).toNat = 0 ∧ 8 < (9 : Byte).toNat ∧ 1 < (2 : Byte).toNat ∧
      (∃ G ∈ panel.groups, G.number = (1 : Byte).toNat ∧ G.state = .captured 0) ∧
      (∃ G ∈ panel.groups, G.number = (8 : Byte).toNat ∧ G.state = .disabled) :=
  ⟨test_panel_receives, test_panel_ok, by decide⟩
theorem test_witness_ReadGroup :
    (Receptive panel ∧ WavesOk panel) ∧ PanelOk panel ∧ 8 < (9 : Byte).toNat ∧
      (∃ G ∈ panel.groups, G.number = (2 : Byte).toNat ∧ G.state = .armed) :=
  ⟨test_panel_receives, test_panel_ok, by decide⟩
theorem test_witness_ConfigureInput :
    (Receptive panel ∧ WavesOk panel) ∧ PanelOk panel ∧ LinesOk panel ∧ NoInputDue panel ∧
      (∃ L ∈ panel.lines, L.number = (0 : Byte).toNat) ∧ (∃ L ∈ panel.lines, L.number = (23 : Byte).toNat) ∧
      ¬ (24 : Byte).toNat ≤ 23 := ⟨test_panel_receives, test_panel_ok, test_panel_inputs_ok.1, by decide⟩
theorem test_witness_ConditionBatch :
    WavesOk panel ∧ PanelOk panel ∧ LinesOk panel ∧ isReady panel = true ∧ chatterDue panel = false ∧
      isReady settling = false ∧ 8192 ≤ (timed fun t => { t with chatterCount := 8192 }).time.chatterCount :=
  ⟨test_panel_receives.2, test_panel_ok, test_panel_inputs_ok.1, by decide⟩
theorem test_witness_ReadInputs : (Receptive panel ∧ WavesOk panel) ∧ LinesOk panel := ⟨test_panel_receives, test_panel_inputs_ok.1⟩
theorem test_witness_ConfigureKeys : (Receptive panel ∧ WavesOk panel) ∧ (1 : Byte).toNat ≤ 1 ∧ 1 < (2 : Byte).toNat :=
  ⟨test_panel_receives, by decide⟩
theorem test_witness_DisplayCommands :
    (Receptive panel ∧ WavesOk panel) ∧ 1 ≤ (1 : Byte).toNat ∧ (4 : Byte).toNat ≤ 4 ∧ ¬ (5 : Byte).toNat ≤ 4 ∧ 1 < (2 : Byte).toNat :=
  ⟨test_panel_receives, by decide⟩
theorem test_witness_FrameAndWarmUp :
    let s := { panel with
      display := { panel.display with drive := .warming 64 }, time := { panel.time with frameDue := true } }
    WavesOk s ∧ PanelOk s ∧ TimeOk s ∧ s.time.frameDue = true ∧ (∃ n ∈ s.display.drive.count, 64 ≤ n) ∧
      panel.time.frameDue = false ∧ (∀ n ∈ panel.display.drive.count, n < 64) :=
  ⟨by decide, test_panel_ok, by decide, by decide, by decide, by decide, by decide⟩
/-- The clause of a boundary ahead of its tick, with the drive ACTIVE. -/
theorem test_witness_FrameAndWarmUp_ahead :
    WavesOk lamps ∧ PanelOk lamps ∧ TimeOk lamps ∧ lamps.time.frameDue = false ∧ lamps.time.prescaler = 31 ∧
      (lamps.time.cycle + 1) % 16 = 0 ∧ lamps.time.frameAhead = false ∧ lamps.display.drive = .active :=
  ⟨by decide, test_panel_ok, by decide, by decide, by decide, by decide, by decide, by decide⟩
theorem test_witness_ReadCells :
    (Receptive panel ∧ WavesOk panel) ∧ PanelOk panel ∧ (TimeOk panel ∧ DisplayOk panel ∧ OutputOk panel) ∧
      (0 : Byte).toNat = 0 ∧ 32 < (33 : Byte).toNat ∧ (128 : Byte).toNat + (32 : Byte).toNat ≤ 160 ∧
      160 < (129 : Byte).toNat + (32 : Byte).toNat ∧ 159 < (160 : Byte).toNat :=
  ⟨test_panel_receives, test_panel_ok, test_panel_units_ok, by decide⟩
theorem test_witness_ConfigureHorn :
    (Receptive panel ∧ WavesOk panel) ∧ 1 ≤ (1 : Byte).toNat ∧ (2 : Byte).toNat ≤ 2 ∧ (63 : Byte).toNat ≤ 63 ∧
      ¬ (64 : Byte).toNat ≤ 63 ∧ ¬ 1 ≤ (0 : Byte).toNat := ⟨test_panel_receives, by decide⟩
theorem test_witness_ReadOutputs :
    (Receptive panel ∧ WavesOk panel) ∧ PanelOk panel ∧ (TimeOk panel ∧ DisplayOk panel ∧ OutputOk panel) :=
  ⟨test_panel_receives, test_panel_ok, test_panel_units_ok⟩
theorem test_witness_WrapGapEndHalfWaveEnd :
    WavesOk loud ∧ sounding loud .horn1 = true ∧ loud.output.horn1.tone + 1 ≤ loud.output.horn1.wave.elapsed ∧
      sounding loud .horn2 = false ∧ loud.time.wrapDue = false ∧ (∀ n ∈ loud.output.gap, n < 512) ∧
      WavesOk { loud with time := { loud.time with wrapDue := true }, output := { loud.output with gap := some 512 } } := by decide

/-- The panel at the last REFCLK period of a tick. -/
def lastPeriod : State := timed fun t => { t with prescaler := 31, leaseCount := 5, cycle := 15 }

theorem test_witness_RefclkPeriod : held.rstn = false ∧ panel.rstn = true ∧ WavesOk panel ∧ NothingDue panel ∧ panel.time.prescaler < 31 := by
  decide
theorem test_witness_TickEvent :
    lastPeriod.rstn = true ∧ WavesOk lastPeriod ∧ NothingDue lastPeriod ∧ LinesOk lastPeriod ∧ KeysOk lastPeriod ∧
      TimeOk lastPeriod ∧ lastPeriod.time.prescaler = 31 := by decide

/-- The same at the wrap, with HORN1 sounding in the middle of a half, and while SETTLING with a warm-up and a gap running. -/
def lastOfCycle : State :=
  { lastPeriod with
    output := { loud.output with horn1 := { loud.output.horn1 with wave := { high := true, elapsed := 3 } } }
    time := { lastPeriod.time with cycle := 2047 } }
def lastSettling : State :=
  { lastPeriod with
    points := [], groups := (List.range 8).map fun n => Group.initial (n + 1), shelf := [], changes := []
    display := { panel.display with drive := .warming 63 }, output := { panel.output with gap := some 511 }
    time := { lastPeriod.time with device := .settling 31, leaseCount := 0 } }

theorem test_witness_TickEvent_wrap :
    lastOfCycle.rstn = true ∧ WavesOk lastOfCycle ∧ NothingDue lastOfCycle ∧ LinesOk lastOfCycle ∧ KeysOk lastOfCycle ∧
      TimeOk lastOfCycle ∧ lastOfCycle.time.prescaler = 31 ∧ (lastOfCycle.time.cycle + 1) % 2048 = 0 := by decide
theorem test_witness_TickEvent_settling :
    lastSettling.rstn = true ∧ WavesOk lastSettling ∧ NothingDue lastSettling ∧ LinesOk lastSettling ∧ KeysOk lastSettling ∧
      TimeOk lastSettling ∧ lastSettling.time.prescaler = 31 ∧ lastSettling.time.device.count = some 31 ∧
      lastSettling.display.drive.count = some 63 := by decide
theorem test_witness_TimePassesInRefclkPeriods : panel.rstn = true ∧ TimeOk panel ∧ settleCanLead panel = false ∧
    frameCanLead panel = false := ⟨by decide, test_panel_units_ok.1, by decide, by decide⟩
theorem test_witness_SettleEnd :
    let s := timed fun t => { t with device := .settling 32 }
    let a := timed fun t => { t with device := .settling 31, prescaler := 31 }
    WavesOk s ∧ PanelOk s ∧ LinesOk s ∧ TimeOk s ∧ s.time.device = .settling 32 ∧
      WavesOk a ∧ TimeOk a ∧ a.time.device = .settling 31 ∧ a.time.prescaler = 31 ∧ panel.time.device = .ready :=
  ⟨by decide, test_panel_ok, test_panel_inputs_ok.1, by decide, rfl, by decide, by decide, rfl, rfl, rfl⟩
theorem test_witness_Restart : Receptive panel := test_panel_receives.1

end Sys2Proof.Tests
end

section
/-! SUPPORT. Results laid out as flags: the bits of a packed byte, and of a run of flag bytes (R180, R186). -/

namespace Sys2Proof.Machine

/-- Bit `j` of a packed number is the `j`-th of the list; beyond the list it is 0 (R180). -/
theorem testBit_packBits (bs : List Bool) (j : Nat) : (packBits bs).testBit j = bs.getD j false := by
  induction bs generalizing j with
  | nil => simp [packBits]
  | cons b bs ih =>
    have hdiv : (b.toNat + 2 * packBits bs) / 2 = packBits bs := by have := b.toNat_le; omega
    cases j with
    | zero => cases b <;> simp [packBits, Nat.testBit_zero]
    | succ j => rw [packBits, Nat.testBit_succ, hdiv, ih, List.getD_cons_succ]

theorem getLsbD_byteOfBits {j : Nat} (h : j < 8) (bs : List Bool) : (byteOfBits bs).getLsbD j = bs.getD j false := by
  rw [byteOfBits, BitVec.getLsbD_ofNat, testBit_packBits, decide_eq_true h, Bool.true_and]

@[simp] theorem length_flagBytes (bytes : Nat) (f : Nat → Bool) : (flagBytes bytes f).length = bytes := by simp [flagBytes]

theorem resultByte_flagBytes {bytes k : Nat} (h : k < bytes) (f : Nat → Bool) :
    resultByte (flagBytes bytes f) (k + 1) = byteOfBits ((List.range 8).map fun j => f (8 * k + j)) := by
  simp [resultByte, flagBytes, List.getD_eq_getElem?_getD, h]

/-- The flag of item `n` is bit `n % 8` of byte `n / 8 + 1` (R186). -/
theorem bitSays_flagBytes {bytes n : Nat} (h : n < 8 * bytes) (f : Nat → Bool) :
    BitSays (flagBytes bytes f) (n / 8 + 1) (n % 8) (f n = true) := by
  have hbit : n % 8 < 8 := Nat.mod_lt n (by decide)
  unfold BitSays
  rw [resultByte_flagBytes (Nat.div_lt_of_lt_mul h), getLsbD_byteOfBits hbit]
  simp [List.getD_eq_getElem?_getD, hbit, Nat.div_add_mod]

/-- READ-DEFINED met by an open port is its taking (R160). -/
theorem exec_readDefined {s : State} (h : PortOpen s) : exec .readDefined s = .next (takeReadDefined s) :=
  atTaking_open h takeReadDefined

/-- The flag of slot `n` in the occupancy map is set when the slot is Defined (R20). -/
theorem bitSays_occupancyBytes {n : Nat} (h : n < 64) (s : State) :
    BitSays (occupancyBytes s) (n / 8 + 1) (n % 8) (pointAt s n ≠ none) := by
  rw [← Option.isSome_iff_ne_none]
  exact bitSays_flagBytes (bytes := 8) h fun n => (pointAt s n).isSome

end Sys2Proof.Machine
end

section
/-! The point table's statements. -/

namespace Sys2Proof.Proofs
open Sys2Proof.Machine

/-- Settles O31: the taking of READ-DEFINED is a read of the occupancy map. -/
theorem readDefined : Obligations.ReadDefined := by
  intro s ⟨hopen, hready⟩ hwaves
  refine ⟨occupancyBytes s, ?_, length_flagBytes 8 _, ?_⟩
  · have htaken : takeReadDefined s = answered s [0x14] .ok (occupancyBytes s) :=
      taken_read hwaves (unlessBusy_ready hready _)
    rw [exec_readDefined hopen, htaken]
  · intro n hn
    exact bitSays_occupancyBytes (List.mem_range.mp hn) s

end Sys2Proof.Proofs
end

section
/-! SUPPORT. The record an arrival leaves, by the answer of the sequence logic (R24, R25, R31). -/

namespace Sys2Proof.Machine

/-- The record after an arrival that leads to `st` (R31). -/
theorem arrive_point_of_respond_some {a : Arrival} {p : Point} {st : PointState}
    (h : respond p.defn.sequence p.run.condition p.state a = some st) :
    (arrive a p).point = { p with run := { p.run with state := st, silenced := false } } := by
  obtain ⟨hnone, -⟩ | ⟨st', hsome, heq⟩ := arrive_cases a p
  · cases hnone.symm.trans h
  · cases hsome.symm.trans h
    rw [heq]

/-- An arrival that has no transition leaves the record as it was (R24). -/
theorem arrive_point_of_respond_none {a : Arrival} {p : Point}
    (h : respond p.defn.sequence p.run.condition p.state a = none) : (arrive a p).point = p := by
  obtain ⟨-, heq⟩ | ⟨st, hsome, -⟩ := arrive_cases a p
  · rw [heq, Moved.still]
  · cases hsome.symm.trans h

end Sys2Proof.Machine
end

section
/-! The sequence logic's statement. -/

namespace Sys2Proof.Proofs
open Sys2Proof.Machine

/-- Settles O35, down the arrivals of R25: for each, the states and sequence types whose cell names it, and those whose
cell does not. -/
theorem transitionTable : Obligations.TransitionTable := by
  intro p a hshelve hunshelve leads
  have moves {st : PointState} (h : respond p.defn.sequence p.run.condition p.state a = some st) : leads st :=
    arrive_point_of_respond_some h
  have stays (h : respond p.defn.sequence p.run.condition p.state a = none) : (arrive a p).point = p :=
    arrive_point_of_respond_none h
  cases a with
  | shelve => exact absurd rfl hshelve
  | unshelve => exact absurd rfl hunshelve
  | abn =>
    cases hstate : p.state with
    | normal | cleared => exact moves (by simp [hstate, respond])
    | alert | acked | shelved => exact stays (by simp [hstate, respond])
    | hold =>
      cases hseq : p.defn.sequence with
      | lock => exact moves (by simp [hstate, hseq, respond])
      | auto | ringback => exact stays (by simp [hstate, hseq, respond])
    | returned =>
      cases hseq : p.defn.sequence with
      | ringback => exact moves (by simp [hstate, hseq, respond])
      | auto | lock => exact stays (by simp [hstate, hseq, respond])
  | nrm =>
    cases hstate : p.state with
    | alert => exact moves (by simp [hstate, respond])
    | acked =>
      cases hseq : p.defn.sequence with
      | auto | lock | ringback => exact moves (by simp [hstate, hseq, respond, restState])
    | normal | cleared | hold | returned | shelved => exact stays (by simp [hstate, respond])
  | ack =>
    cases hstate : p.state with
    | alert => exact moves (by simp [hstate, respond])
    | cleared =>
      cases hseq : p.defn.sequence with
      | auto | lock | ringback => exact moves (by simp [hstate, hseq, respond, restState])
    | normal | acked | hold | returned | shelved => exact stays (by simp [hstate, respond])
  | clr =>
    cases hstate : p.state with
    | hold =>
      cases hseq : p.defn.sequence with
      | lock => exact moves (by simp [hstate, hseq, respond])
      | auto | ringback => exact stays (by simp [hstate, hseq, respond])
    | returned =>
      cases hseq : p.defn.sequence with
      | ringback => exact moves (by simp [hstate, hseq, respond])
      | auto | lock => exact stays (by simp [hstate, hseq, respond])
    | normal | alert | acked | cleared | shelved => exact stays (by simp [hstate, respond])

end Sys2Proof.Proofs
end

section
/-! SUPPORT. Results laid out byte by byte: the bytes of a result, and the bits and fields of a byte (R180). -/

namespace Sys2Proof.Machine

/-! ### The bytes of a result -/

theorem resultByte_append_left {a b : List Byte} {k : Nat} (hpos : 0 < k) (hle : k ≤ a.length) :
    resultByte (a ++ b) k = resultByte a k :=
  List.getD_append a b 0 (k - 1) (by omega)

theorem resultByte_append_right {a b : List Byte} {j k : Nat} (h : j = a.length + k) (hpos : 0 < k) :
    resultByte (a ++ b) j = resultByte b k := by
  have hsub : j - 1 - a.length = k - 1 := by omega
  rw [resultByte, List.getD_append_right a b 0 (j - 1) (by omega), hsub, resultByte]

theorem resultByte_map {α : Type} {l : List α} {k : Nat} {x : α} (f : α → Byte) (h : l[k]? = some x) :
    resultByte (l.map f) (k + 1) = f x := by
  simp [resultByte, List.getD_eq_getElem?_getD, h]

/-- Items of two elements each: those of item `k` are the two from place `2k` on. -/
theorem take_drop_flatMap_two {α β : Type} {f : α → List β} (hf : ∀ x, (f x).length = 2) {l : List α} {k : Nat} {x : α}
    (h : l[k]? = some x) : ((l.flatMap f).drop (2 * k)).take 2 = f x := by
  induction l generalizing k with
  | nil => simp at h
  | cons y ys ih =>
    rw [List.flatMap_cons]
    cases k with
    | zero =>
      obtain rfl : y = x := by simpa using h
      exact List.take_left' (hf y)
    | succ k =>
      have hplace : 2 * (k + 1) = (f y).length + 2 * k := by rw [hf]; omega
      rw [hplace, List.drop_length_add_append, ih (by simpa using h)]

/-- Records of two bytes each: byte `j` of record `k` is byte `2k + j` of the run. -/
theorem resultByte_flatMap_two {α : Type} {f : α → List Byte} (hf : ∀ x, (f x).length = 2) {l : List α} {k j : Nat} {x : α}
    (h : l[k]? = some x) (hpos : 0 < j) (hle : j ≤ 2) : resultByte (l.flatMap f) (2 * k + j) = resultByte (f x) j := by
  have hplace : 2 * k + j - 1 = 2 * k + (j - 1) := by omega
  have hj : j - 1 < 2 := by omega
  simp only [resultByte, List.getD_eq_getElem?_getD]
  rw [← take_drop_flatMap_two hf h, List.getElem?_take, if_pos hj, List.getElem?_drop, hplace]

theorem length_flatMap_two {α : Type} {f : α → List Byte} (hf : ∀ x, (f x).length = 2) (l : List α) :
    (l.flatMap f).length = 2 * l.length := by
  simp [List.length_flatMap, hf, Nat.mul_comm]

/-! ### A byte that holds a number -/

theorem toNat_byteOf {n : Nat} (h : n < 256) : (byteOf n).toNat = n := by
  rw [byteOf, BitVec.toNat_ofNat]
  exact Nat.mod_eq_of_lt h

theorem field_byteOf {n : Nat} (h : n < 256) (lo width : Nat) : field (byteOf n) lo width = n / 2 ^ lo % 2 ^ width := by
  rw [field, toNat_byteOf h]

/-- A bit is the one-bit field at its place. -/
theorem getLsbD_iff_field (b : Byte) (j : Nat) : b.getLsbD j = true ↔ field b j 1 = 1 := by
  rw [BitVec.getLsbD, Nat.testBit_eq_decide_div_mod_eq, decide_eq_true_iff, field, Nat.pow_one]

/-! ### A byte that holds flags -/

/-- A field of packed bits is its stretch of them, packed by themselves. -/
theorem field_byteOfBits {lo width : Nat} (h : lo + width ≤ 8) (bs : List Bool) :
    field (byteOfBits bs) lo width = packBits ((bs.drop lo).take width) := by
  apply Nat.eq_of_testBit_eq
  intro i
  have hbyte : (byteOfBits bs).toNat = packBits bs % 2 ^ 8 := BitVec.toNat_ofNat ..
  rw [field, hbyte, Nat.testBit_mod_two_pow, Nat.testBit_div_two_pow, Nat.testBit_mod_two_pow, testBit_packBits,
    testBit_packBits, List.getD_eq_getElem?_getD, List.getD_eq_getElem?_getD, List.getElem?_take, List.getElem?_drop,
    Nat.add_comm lo i]
  by_cases hi : i < width
  · have hlow : i + lo < 8 := by omega
    simp [hi, hlow]
  · simp [hi]

/-- A bit of a byte of packed flags says what its flag says. -/
theorem bitSays_of_bits {r : List Byte} {k j : Nat} {bs : List Bool} {P : Prop} (hbyte : resultByte r k = byteOfBits bs)
    (hj : j < 8) (hflag : bs.getD j false = true ↔ P) : BitSays r k j P := by
  unfold BitSays
  rw [hbyte, getLsbD_byteOfBits hj]
  exact hflag

/-- A field of a byte of packed flags is the number that its flags spell. -/
theorem field_of_bits {r : List Byte} {k lo width n : Nat} {bs : List Bool} (hbyte : resultByte r k = byteOfBits bs)
    (hle : lo + width ≤ 8) (hbits : packBits ((bs.drop lo).take width) = n) : field (resultByte r k) lo width = n := by
  rw [hbyte, field_byteOfBits hle, hbits]

/-- A bit that has no meaning reads 0. -/
theorem bitSays_false {r : List Byte} {k j : Nat} (h : field (resultByte r k) j 1 = 0) : BitSays r k j False := by
  unfold BitSays
  rw [getLsbD_iff_field, h]
  decide

end Sys2Proof.Machine
end

section
/-! SUPPORT. The taking of a host command, from what its effect answers (R160). -/

namespace Sys2Proof.Machine

/-- A command whose effect leaves every horn that does not sound at rest answers with its status and its results in the state
that its effect leaves. -/
theorem exec_of_effect {i : Instr} {s t : State} {bytes results : List Byte} {effect : State → Answer} {st : Status}
    (hexec : exec i s = atTaking (taken bytes effect) s) (hopen : PortOpen s)
    (heffect : effect s = { status := st, results := results, state := t }) (hwaves : WavesOk t) :
    exec i s = .next (answered t bytes st results) := by
  have htaken : taken bytes effect s = answered t bytes st results := by
    simp only [taken, heffect]
    exact restHorns_of_wavesOk (s := answered t bytes st results) hwaves
  rw [hexec, atTaking_open hopen, htaken]

/-- A command that only READY admits, taken while READY. -/
theorem exec_of_effect_ready {i : Instr} {s t : State} {bytes results : List Byte} {effect : State → Answer} {st : Status}
    (hexec : exec i s = atTaking (taken bytes (unlessBusy effect)) s) (hrec : Receptive s)
    (heffect : effect s = { status := st, results := results, state := t }) (hwaves : WavesOk t) :
    exec i s = .next (answered t bytes st results) := by
  obtain ⟨hopen, hready⟩ := hrec
  exact exec_of_effect hexec hopen ((unlessBusy_ready hready effect).trans heffect) hwaves

/-- A command that only READY admits, taken while SETTLING (R164). -/
theorem exec_busy {i : Instr} {s : State} {bytes : List Byte} {effect : State → Answer}
    (hexec : exec i s = atTaking (taken bytes (unlessBusy effect)) s) (hopen : PortOpen s) (hsettling : isReady s = false)
    (hwaves : WavesOk s) : exec i s = .next (answered s bytes .busy []) :=
  exec_of_effect hexec hopen (unlessBusy_settling hsettling effect) hwaves

end Sys2Proof.Machine
end

section
/-! SUPPORT. The operand readers, value by value (R180). -/

namespace Sys2Proof.Machine

theorem twoValued_of_le {b : Byte} (h : b.toNat ≤ 1) : twoValued b = some (decide (b = 0x01)) := by
  have hcases : b.toNat = 0 ∨ b.toNat = 1 := by omega
  rcases hcases with h0 | h1
  · obtain rfl : b = 0x00 := BitVec.eq_of_toNat_eq h0
    rfl
  · obtain rfl : b = 0x01 := BitVec.eq_of_toNat_eq h1
    rfl

theorem twoValued_of_lt {b : Byte} (h : 1 < b.toNat) : twoValued b = none := by
  have h0 : b ≠ 0x00 := by rintro rfl; exact absurd h (by decide)
  have h1 : b ≠ 0x01 := by rintro rfl; exact absurd h (by decide)
  rw [twoValued, if_neg h0, if_neg h1]

theorem numberIn_of_mem {low high : Nat} {b : Byte} (hlow : low ≤ b.toNat) (hhigh : b.toNat ≤ high) :
    numberIn low high b = some b.toNat := if_pos ⟨hlow, hhigh⟩

theorem numberIn_of_lt {low high : Nat} {b : Byte} (h : b.toNat < low ∨ high < b.toNat) : numberIn low high b = none :=
  if_neg (by omega)

end Sys2Proof.Machine
end

section
/-! The statements about ECHO and CONFIGURE-NOTIFY. -/

namespace Sys2Proof.Proofs
open Sys2Proof.Machine

/-- Settles O23: inverting every bit is the exclusive or with 0xFF. -/
theorem echo : Obligations.Echo := by
  intro s value hopen hwaves
  have hinvert : ~~~value = value ^^^ 0xFF := BitVec.xor_allOnes.symm
  constructor
  · intro hready
    rw [← hinvert]
    exact exec_of_effect_ready rfl ⟨hopen, hready⟩ rfl hwaves
  · intro hsettling
    exact exec_busy rfl hopen hsettling hwaves

end Sys2Proof.Proofs

namespace Sys2Proof.Machine

/-- Two-valued operands are written to the enables (R176). -/
theorem configureNotify_accepted {changes errors : Byte} (hc : changes.toNat ≤ 1) (he : errors.toNat ≤ 1) (s : State) :
    configureNotify changes errors s =
      .ok (s.withNotify { changes := decide (changes = 0x01), errors := decide (errors = 0x01) }) := by
  simp only [configureNotify, twoValued_of_le hc, twoValued_of_le he]

/-- An operand that is not two-valued is refused (R176). -/
theorem configureNotify_refused {changes errors : Byte} (h : 1 < changes.toNat ∨ 1 < errors.toNat) (s : State) :
    configureNotify changes errors s = .refuse s .badArgument := by
  rcases h with hc | he
  · simp only [configureNotify, twoValued_of_lt hc]
  · cases hc : twoValued changes <;> simp only [configureNotify, hc, twoValued_of_lt he]

/-- The CS rise that ends a RESET-DEVICE resets the part (R178, R201). -/
theorem exec_csRise_resetDevice {s : State} {reply : List Byte} (hrstn : s.rstn = true) (hcs : s.cs = false)
    (hport : s.port = replied [0x09] reply) :
    ∃ u, exec .csRise s = .next u ∧ u.notify = { changes := false, errors := false } := by
  refine ⟨restHorns ((deviceReset (s.withPins s.rstn true)).withPort .idle), ?_, rfl⟩
  simp only [exec, execCsRise, hcs, hrstn, hport, replied, done, Bool.false_eq_true, if_false]
  rfl

end Sys2Proof.Machine

namespace Sys2Proof.Proofs
open Sys2Proof.Machine

/-- Settles O25, a taking for each case of the operands, then the two resets and RESTART. -/
theorem configureNotify : Obligations.ConfigureNotify := by
  intro s changes errors hopen hwaves
  refine ⟨?accepted, ?refused, ?busy, ?pinReset, ?resetDevice, ?restart⟩
  case accepted =>
    intro hready hc he
    exact exec_of_effect_ready rfl ⟨hopen, hready⟩ (configureNotify_accepted hc he s) hwaves
  case refused =>
    intro hready hbad
    exact exec_of_effect_ready rfl ⟨hopen, hready⟩ (configureNotify_refused hbad s) hwaves
  case busy =>
    intro hsettling
    exact exec_busy rfl hopen hsettling hwaves
  case pinReset => exact ⟨_, rfl, rfl⟩
  case resetDevice =>
    have htaking : exec .resetDevice s = .next (answered s [0x09] .ok []) := exec_of_effect rfl hopen rfl hwaves
    exact ⟨_, htaking, rfl, fun hcs => exec_csRise_resetDevice hopen.1 hcs rfl⟩
  case restart =>
    refine ⟨takeRestart s, atTaking_open hopen takeRestart, ?_⟩
    cases hready : isReady s with
    | true => simp [takeRestart, taken, unlessBusy_ready hready, Answer.ok, restartEvent]
    | false => simp [takeRestart, taken, unlessBusy_settling hready, Answer.refuse]

end Sys2Proof.Proofs
end

section
/-! SUPPORT. The derived quantities say what the rules say of them: each in the words of the statements. -/

namespace Sys2Proof.Machine

/-! ### Records by number -/

/-- Where no two records share a number, a lookup by a record's number finds that record. -/
theorem find?_of_nodup {α : Type} {l : List α} {number : α → Nat} (h : (l.map number).Nodup) {x : α} (hx : x ∈ l) :
    (l.find? fun y => number y == number x) = some x := by
  cases hfind : l.find? fun y => number y == number x with
  | none => exact absurd (List.find?_eq_none.mp hfind x hx) (by simp)
  | some y =>
    have hnum : number y = number x := by simpa using List.find?_some hfind
    rw [List.inj_on_of_nodup_map h (List.mem_of_find?_eq_some hfind) hx hnum]

theorem NumbersAscend.nodup {s : State} (h : NumbersAscend s) : (s.points.map Point.number).Nodup :=
  h.imp Nat.ne_of_lt

theorem pointAt_number {s : State} (h : NumbersAscend s) {p : Point} (hp : p ∈ s.points) : pointAt s p.number = some p :=
  find?_of_nodup h.nodup hp

theorem mem_of_pointAt {s : State} {n : Nat} {p : Point} (h : pointAt s n = some p) : p ∈ s.points ∧ p.number = n :=
  ⟨List.mem_of_find?_eq_some h, by simpa using List.find?_some h⟩

theorem lineAt_number {s : State} (h : LinesOk s) {L : Line} (hL : L ∈ s.lines) : lineAt s L.number = L := by
  have hnodup : (s.lines.map Line.number).Nodup := by rw [h.1]; exact List.nodup_range
  rw [lineAt, find?_of_nodup hnodup hL, Option.getD_some]

theorem number_lt_of_linesOk {s : State} (h : LinesOk s) {L : Line} (hL : L ∈ s.lines) : L.number < 24 := by
  have hmem : L.number ∈ s.lines.map Line.number := List.mem_map_of_mem hL
  rw [h.1] at hmem
  exact List.mem_range.mp hmem

theorem shelfRemaining_point {s : State} (h : ShelfOk s) {e : ShelfEntry} (he : e ∈ s.shelf) :
    shelfRemaining s e.point = e.remaining := by
  obtain ⟨-, hnodup, -⟩ := h
  rw [shelfRemaining, find?_of_nodup hnodup he]
  rfl

theorem shelfRemaining_le {s : State} (h : ShelfOk s) (n : Nat) : shelfRemaining s n ≤ 240 := by
  obtain ⟨-, -, -, hrange, -⟩ := h
  unfold shelfRemaining
  cases hfind : s.shelf.find? fun e => e.point == n with
  | none => simp
  | some e => exact (hrange e (List.mem_of_find?_eq_some hfind)).2

/-! ### How many records there are -/

theorem number_lt_of_tableOk {s : State} (h : TableOk s) {p : Point} (hp : p ∈ s.points) : p.number < 64 :=
  (h.2 p hp).1.1

/-- Numbers of Defined slots, each listed once, are at most 64 (R1). -/
theorem length_le_of_defined {s : State} (h : TableOk s) {ns : List Nat} (hnodup : ns.Nodup)
    (hdefined : ∀ n ∈ ns, ∃ p ∈ s.points, p.number = n) : ns.length ≤ 64 := by
  have hsub : ns ⊆ List.range 64 := by
    intro n hn
    obtain ⟨p, hp, rfl⟩ := hdefined n hn
    exact List.mem_range.mpr (number_lt_of_tableOk h hp)
  simpa using (hnodup.subperm hsub).length_le

theorem length_points_le {s : State} (h : TableOk s) : s.points.length ≤ 64 := by
  have hdefined : ∀ n ∈ s.points.map Point.number, ∃ p ∈ s.points, p.number = n := fun n hn => List.mem_map.mp hn
  simpa using length_le_of_defined h h.1.nodup hdefined

theorem length_changes_le {s : State} (h : TableOk s) (hc : ChangesOk s) : s.changes.length ≤ 64 := by
  obtain ⟨hnodup, hentries⟩ := hc
  have hdefined : ∀ n ∈ s.changes.map ChangeEntry.point, ∃ p ∈ s.points, p.number = n := by
    intro n hn
    obtain ⟨e, he, rfl⟩ := List.mem_map.mp hn
    exact hentries e he
  simpa using length_le_of_defined h hnodup hdefined

/-! ### Points -/

/-- The model's first-out mark is R48's: no group has number 0. -/
theorem firstOut_iff {s : State} (h : GroupsOk s) (p : Point) : firstOut s.groups p = true ↔ Marked s p := by
  have hgroup : Marked s p → p.group ≠ 0 := by
    rintro ⟨G, hG, hnum, -⟩
    have hmem : G.number ∈ s.groups.map Group.number := List.mem_map_of_mem hG
    rw [h.1, hnum] at hmem
    rintro h0
    rw [h0] at hmem
    exact absurd hmem (by decide)
  have hany : (s.groups.any fun G => G.number == p.group && G.state == .captured p.number) = true ↔ Marked s p := by
    simp [Marked, List.any_eq_true]
  rw [firstOut, Bool.and_eq_true, hany]
  exact ⟨And.right, fun hm => ⟨by simpa using hgroup hm, hm⟩⟩

theorem unacknowledged_iff (p : Point) : p.state.unacknowledged = true ↔ Unacknowledged p := by
  unfold Unacknowledged
  cases p.state <;> simp [PointState.unacknowledged]

theorem alarmPresent_iff (s : State) : alarmPresent s = true ↔ AlarmPresent s := by
  simp only [alarmPresent, List.any_eq_true, unacknowledged_iff]

theorem alarmCount_eq (s : State) : alarmCount s = (s.points.filter fun p => decide (Unacknowledged p)).length := by
  rw [alarmCount, List.countP_eq_length_filter]
  congr 2
  funext p
  rw [Bool.eq_iff_iff, unacknowledged_iff, decide_eq_true_iff]

theorem stalePresent_iff (s : State) :
    stalePresent s = true ↔ ∃ p ∈ s.points, p.defn.source = .host ∧ p.run.stale = true := by
  simp [stalePresent, List.any_eq_true]

/-- The three bits of a state spell its code (R23). -/
theorem packBits_stateBits (st : PointState) : packBits st.bits = stateCode st := by cases st <;> rfl

/-! ### Lines, keys, the drive and IRQ -/

theorem qualifiedByMode_eq (L : Line) : qualifiedByMode L = L.qualified := by
  unfold qualifiedByMode Line.qualified
  cases L.mode <;> rfl

theorem chatterPresent_iff (s : State) : chatterPresent s = true ↔ ∃ L ∈ s.lines, L.mode = .chatter := by
  simp [chatterPresent, List.any_eq_true]

theorem keyTest_iff (s : State) : keyTest s = true ↔ KeyTestClaim s := by
  simp [keyTest, KeyTestClaim, and_assoc]

theorem testActive_iff (s : State) : testActive s = true ↔ TestActive s := by
  rw [testActive, Bool.or_eq_true, keyTest_iff]

/-- The two bits of a drive state spell the code that R185 and R188 give it. -/
theorem showsDrive_packBits (d : Drive) : ShowsDrive d (packBits d.bits) := by
  cases d <;> simp [ShowsDrive, Drive.count, Drive.bits, Drive.code, packBits]

theorem anyFlag_iff (f : StickyFlags) : anyFlag f = true ↔ SomeFlag f := by
  simp [anyFlag, SomeFlag, or_assoc]

theorem irq_iff (s : State) : irq s = true ↔ IrqAsserted s := by
  simp [irq, IrqAsserted, anyFlag_iff]

end Sys2Proof.Machine
end

section
/-! READ-STATUS and READ-CHANGES. -/

namespace Sys2Proof.Proofs
open Sys2Proof.Machine

/-- Settles O21, byte by byte in the order of R185. -/
theorem readStatus : Obligations.ReadStatus := by
  rintro s hopen hwaves ⟨htable, -, hshelf, hchanges⟩
  have hcount : alarmCount s ≤ 64 := (List.countP_le_length).trans (length_points_le htable)
  have hentries : s.changes.length ≤ 64 := length_changes_le htable hchanges
  have hshelved : s.shelf.length ≤ 16 := hshelf.1
  refine ⟨statusBytes s, exec_of_effect (t := s.withFlags (s.flags.each .marked)) rfl hopen rfl hwaves, rfl, ?_⟩
  refine ⟨?ready, ?byte1, ?chatterSeen, ?staleSeen, ?unknown, ?truncated, ?changes, ?shelf, ?alarms, ?byte5, ?drive, ?bit3,
    ?test, ?chatter, ?stale, ?irq, ?byte6, ?errors, ?notify⟩
  case ready => exact bitSays_of_bits rfl (by decide) Iff.rfl
  case byte1 => exact field_of_bits rfl (by decide) rfl
  case chatterSeen => exact bitSays_of_bits rfl (by decide) Iff.rfl
  case staleSeen => exact bitSays_of_bits rfl (by decide) Iff.rfl
  case unknown => exact bitSays_of_bits rfl (by decide) Iff.rfl
  case truncated => exact bitSays_of_bits rfl (by decide) Iff.rfl
  case changes => exact toNat_byteOf (by omega)
  case shelf => exact toNat_byteOf (by omega)
  case alarms => exact (toNat_byteOf (by omega)).trans (alarmCount_eq s)
  case byte5 => exact field_of_bits rfl (by decide) rfl
  case drive =>
    have hbits : field (resultByte (statusBytes s) 5) 4 2 = packBits s.display.drive.bits :=
      field_of_bits rfl (by decide) rfl
    rw [hbits]
    exact showsDrive_packBits s.display.drive
  case bit3 => exact bitSays_false (field_of_bits rfl (by decide) rfl)
  case test => exact bitSays_of_bits rfl (by decide) (testActive_iff s)
  case chatter => exact bitSays_of_bits rfl (by decide) (chatterPresent_iff s)
  case stale => exact bitSays_of_bits rfl (by decide) (stalePresent_iff s)
  case irq => exact bitSays_of_bits rfl (by decide) (irq_iff s)
  case byte6 => exact field_of_bits rfl (by decide) rfl
  case errors => exact bitSays_of_bits rfl (by decide) Iff.rfl
  case notify => exact bitSays_of_bits rfl (by decide) Iff.rfl

end Sys2Proof.Proofs

namespace Sys2Proof.Machine

/-- A HOST flag in a result byte: the model's conjunction in the rule's order (R183, R184). -/
theorem hostFlag_iff (b : Bool) (p : Point) : (b && p.defn.source == .host) = true ↔ p.defn.source = .host ∧ b = true := by
  rw [Bool.and_eq_true, beq_iff_eq, and_comm]

/-- A maximum outside 1 to 16 is refused (R172). -/
theorem readChanges_refused {maximum : Byte} (h : maximum.toNat = 0 ∨ 16 < maximum.toNat) (s : State) :
    readChanges maximum s = .refuse s .badArgument := by
  have hout : numberIn 1 Config.maxRead maximum = none := numberIn_of_lt (h.imp_left fun h0 => by omega)
  simp only [readChanges, hout]

/-- The result of a READ-CHANGES that reports the first `c` entries (R184). -/
def changeBytes (c : Nat) (s : State) : List Byte := byteOf c :: (s.changes.take c).flatMap (entryBytes s)

/-- A maximum of 1 to 16 reports and marks as many entries as it and the list allow (R172, R173). -/
theorem readChanges_accepted {maximum : Byte} (hlow : 1 ≤ maximum.toNat) (hhigh : maximum.toNat ≤ 16) (s : State) :
    readChanges maximum s =
      { status := .ok, results := changeBytes (min maximum.toNat s.changes.length) s
        state := s.withChanges (markInFlight (min maximum.toNat s.changes.length) s.changes) } := by
  have hin : numberIn 1 Config.maxRead maximum = some maximum.toNat := numberIn_of_mem hlow hhigh
  simp only [readChanges, hin, changeBytes]

theorem length_entryBytes (s : State) (e : ChangeEntry) : (entryBytes s e).length = 2 := by
  unfold entryBytes
  cases pointAt s e.point <;> rfl

theorem length_changeBytes {c : Nat} {s : State} (h : c ≤ s.changes.length) : (changeBytes c s).length = 1 + 2 * c := by
  rw [changeBytes, List.length_cons, length_flatMap_two (length_entryBytes s), List.length_take, Nat.min_eq_left h,
    Nat.add_comm]

/-- Entry `k` lies in bytes `2k + 2` and `2k + 3` (R184). -/
theorem resultByte_changeBytes {c k j : Nat} {s : State} {e : ChangeEntry} (hk : k < c) (he : s.changes[k]? = some e)
    (hpos : 0 < j) (hle : j ≤ 2) : resultByte (changeBytes c s) (2 * k + 1 + j) = resultByte (entryBytes s e) j := by
  have htake : (s.changes.take c)[k]? = some e := by rw [List.getElem?_take, if_pos hk, he]
  rw [← resultByte_flatMap_two (length_entryBytes s) htake hpos hle]
  exact resultByte_append_right (a := [byteOf c]) (by simp only [List.length_singleton]; omega) (by omega)

end Sys2Proof.Machine

namespace Sys2Proof.Proofs
open Sys2Proof.Machine

/-- Settles O22: the two bytes of entry `k` are those of its point as it stands (R184). -/
theorem readChanges : Obligations.ReadChanges := by
  rintro s maximum hrec hwaves ⟨htable, hgroups, -, -⟩
  constructor
  · intro hbad
    exact exec_of_effect_ready rfl hrec (readChanges_refused hbad s) hwaves
  intro hlow hhigh c
  have hc : c ≤ 16 := (Nat.min_le_left ..).trans hhigh
  refine ⟨changeBytes c s, exec_of_effect_ready rfl hrec (readChanges_accepted hlow hhigh s) hwaves,
    length_changeBytes (Nat.min_le_right ..), toNat_byteOf (by omega), ?_⟩
  intro k hk e he p hp hnum
  have hpoint : pointAt s e.point = some p := hnum ▸ pointAt_number htable.1 hp
  have hnumber : p.number < 64 := number_lt_of_tableOk htable hp
  have hbyte (j : Nat) (hpos : 0 < j) (hle : j ≤ 2) :
      resultByte (changeBytes c s) (2 * k + 1 + j) = resultByte (entryBytes s e) j :=
    resultByte_changeBytes (List.mem_range.mp hk) he hpos hle
  have hnamed : resultByte (changeBytes c s) (2 * k + 2) = byteOf p.number := by
    rw [hbyte 1 (by decide) (by decide), entryBytes, hpoint, hnum]
    rfl
  have hflags : resultByte (changeBytes c s) (2 * k + 3) =
      byteOfBits (p.state.bits ++
        [firstOut s.groups p, p.run.stale && p.defn.source == .host, p.run.condition == .abnormal]) := by
    rw [hbyte 2 (by decide) (by decide), entryBytes, hpoint]
    rfl
  refine ⟨?number, ?state, ?mark, ?stale, ?condition, ?rest⟩
  case number => rw [hnamed, toNat_byteOf (by omega)]
  case state => exact field_of_bits hflags (by decide) (packBits_stateBits p.state)
  case mark => exact bitSays_of_bits hflags (by decide) (firstOut_iff hgroups p)
  case stale => exact bitSays_of_bits hflags (by decide) (hostFlag_iff p.run.stale p)
  case condition => exact bitSays_of_bits hflags (by decide) beq_iff_eq
  case rest => exact field_of_bits hflags (by decide) rfl

end Sys2Proof.Proofs
end

section
/-! READ-POINT. -/

namespace Sys2Proof.Machine

/-- A number beyond the slots is refused (R19). -/
theorem readPoint_badArgument {point : Byte} (h : 63 < point.toNat) (s : State) :
    readPoint point s = .refuse s .badArgument := by
  have hout : pointOf point = none := numberIn_of_lt (.inr h)
  simp only [readPoint, hout]

/-- A Vacant slot is refused (R19). -/
theorem readPoint_vacant {point : Byte} {s : State} (h : point.toNat ≤ 63) (hslot : pointAt s point.toNat = none) :
    readPoint point s = .refuse s .vacant := by
  have hin : pointOf point = some point.toNat := numberIn_of_mem (Nat.zero_le _) h
  simp only [readPoint, hin, hslot]

/-- A Defined slot is read (R19). -/
theorem readPoint_defined {point : Byte} {s : State} {p : Point} (h : point.toNat ≤ 63)
    (hslot : pointAt s point.toNat = some p) : readPoint point s = .read s (pointBytes s p) := by
  have hin : pointOf point = some point.toNat := numberIn_of_mem (Nat.zero_le _) h
  simp only [readPoint, hin, hslot]

theorem length_definitionBytes (d : Definition) : (definitionBytes d).length = 6 + d.cells.length := by
  simp only [definitionBytes, List.length_append, List.length_map, List.length_cons, List.length_nil]

theorem length_pointBytes (s : State) (p : Point) : (pointBytes s p).length = 9 + p.defn.cells.length := by
  rw [pointBytes, List.length_append, length_definitionBytes, List.length_cons, List.length_cons, List.length_singleton]
  omega

/-- The cells follow the six bytes of the definition (R183). -/
theorem resultByte_pointBytes_cell {k : Nat} {p : Point} (h : k < p.defn.cells.length) (s : State) :
    resultByte (pointBytes s p) (7 + k) = byteOf (p.defn.cells.getD k 0) := by
  have hcell : p.defn.cells[k]? = some (p.defn.cells.getD k 0) := by
    rw [List.getD_eq_getElem?_getD, List.getElem?_eq_getElem h, Option.getD_some]
  have hplace : 7 + k ≤ (definitionBytes p.defn).length := by rw [length_definitionBytes]; omega
  rw [pointBytes, resultByte_append_left (by omega) hplace, definitionBytes,
    resultByte_append_right (k := k + 1) (by simp only [List.length_cons, List.length_nil]; omega) (by omega)]
  exact resultByte_map _ hcell

/-- The runtime follows the definition (R183). -/
theorem resultByte_pointBytes_runtime {k : Nat} (h : 0 < k) (s : State) (p : Point) :
    resultByte (pointBytes s p) (6 + k + p.defn.cells.length) =
      resultByte
        [byteOfBits (p.state.bits ++
          [p.run.condition == .abnormal, p.run.asserted == .abnormal && p.defn.source == .host,
            p.run.stale && p.defn.source == .host, p.run.silenced, firstOut s.groups p]),
          byteOf (if p.defn.source = .host then p.run.age else 0),
          byteOf (if p.state = .shelved then shelfRemaining s p.number else 0)] k :=
  resultByte_append_right (by rw [length_definitionBytes]; omega) h

/-- The attributes byte holds the priority and the two flags, and no more (R182). -/
theorem toNat_attributesByte {d : Definition} (h : d.priority ≤ 4) :
    (attributesByte d).toNat = d.priority + 64 * d.shelvable.toNat + 128 * d.audible.toNat := by
  have hs : d.shelvable.toNat ≤ 1 := d.shelvable.toNat_le
  have ha : d.audible.toNat ≤ 1 := d.audible.toNat_le
  exact toNat_byteOf (by omega)

theorem attributesByte_priority {d : Definition} (h : d.priority ≤ 4) : field (attributesByte d) 0 3 = d.priority := by
  rw [field, toNat_attributesByte h]
  omega

theorem attributesByte_unused {d : Definition} (h : d.priority ≤ 4) : field (attributesByte d) 3 3 = 0 := by
  rw [field, toNat_attributesByte h]
  omega

theorem attributesByte_shelvable {d : Definition} (h : d.priority ≤ 4) :
    (attributesByte d).getLsbD 6 = true ↔ d.shelvable = true := by
  rw [getLsbD_iff_field, field, toNat_attributesByte h]
  cases d.shelvable <;> simp <;> omega

theorem attributesByte_audible {d : Definition} (h : d.priority ≤ 4) :
    (attributesByte d).getLsbD 7 = true ↔ d.audible = true := by
  have hs : d.shelvable.toNat ≤ 1 := d.shelvable.toNat_le
  rw [getLsbD_iff_field, field, toNat_attributesByte h]
  cases d.audible <;> simp <;> omega

/-- A LINE source is the number of its line (R182). -/
theorem toNat_sourceByte {src : Source} {l : Nat} (hl : l ∈ src.lineNumber) (hlt : l < 24) : (sourceByte src).toNat = l := by
  cases src with
  | host => simp [Source.lineNumber] at hl
  | line m =>
    obtain rfl : m = l := by simpa [Source.lineNumber] using hl
    exact toNat_byteOf (by omega)

theorem age_le_of_ageingOk {p : Point} (h : AgeingOk p) : (if p.defn.source = .host then p.run.age else 0) ≤ 3 := by
  by_cases hsrc : p.defn.source = .host
  · rw [AgeingOk, if_pos hsrc] at h
    rw [if_pos hsrc]
    exact h.1
  · rw [if_neg hsrc]
    decide

end Sys2Proof.Machine

namespace Sys2Proof.Proofs
open Sys2Proof.Machine

/-- Settles O30, byte by byte in the order of R183: the definition, the cells, then the runtime. -/
theorem readPoint : Obligations.ReadPoint := by
  rintro s point hrec hwaves ⟨htable, hgroups, hshelf, -⟩
  refine ⟨fun h => exec_of_effect_ready rfl hrec (readPoint_badArgument h s) hwaves,
    fun h hslot => exec_of_effect_ready rfl hrec (readPoint_vacant h hslot) hwaves, ?_⟩
  intro p hslot n
  obtain ⟨hp, hnum⟩ := mem_of_pointAt hslot
  obtain ⟨⟨hnumber, hline, hgroup, -, hpriority, -, hlength, hcells, -⟩, -, -, -, hageing⟩ := htable.2 p hp
  have hnumber64 : p.defn.number < 64 := hnumber
  have hgroup8 : p.defn.group ≤ 8 := hgroup
  have hpoint : point.toNat ≤ 63 := hnum ▸ Nat.le_of_lt_succ hnumber64
  have hage := age_le_of_ageingOk hageing
  have hflags : resultByte (pointBytes s p) (7 + n) = _ := resultByte_pointBytes_runtime (k := 1) (by decide) s p
  have hageByte : resultByte (pointBytes s p) (8 + n) = _ := resultByte_pointBytes_runtime (k := 2) (by decide) s p
  have hshelfByte : resultByte (pointBytes s p) (9 + n) = _ := resultByte_pointBytes_runtime (k := 3) (by decide) s p
  refine ⟨pointBytes s p, exec_of_effect_ready rfl hrec (readPoint_defined hpoint hslot) hwaves, length_pointBytes s p, ?_⟩
  refine ⟨?number, ?line, ?host, ?auto, ?lock, ?ringback, ?group, ?audible, ?shelvable, ?unused, ?priority, ?count, ?cells,
    ?state, ?condition, ?asserted, ?stale, ?silenced, ?mark, ?age, ?unshelved, ?shelved⟩
  case number => exact toNat_byteOf (by omega)
  case line =>
    intro l hl
    exact toNat_sourceByte hl (hline l hl)
  case host => exact fun hsrc => congrArg sourceByte hsrc
  case auto => exact fun hseq => congrArg sequenceByte hseq
  case lock => exact fun hseq => congrArg sequenceByte hseq
  case ringback => exact fun hseq => congrArg sequenceByte hseq
  case group => exact toNat_byteOf (by omega)
  case audible => exact attributesByte_audible hpriority
  case shelvable => exact attributesByte_shelvable hpriority
  case unused => exact attributesByte_unused hpriority
  case priority => exact attributesByte_priority hpriority
  case count => exact toNat_byteOf (by omega)
  case cells =>
    intro k hk
    have hlt : k < p.defn.cells.length := List.mem_range.mp hk
    have hcell : p.defn.cells.getD k 0 < 160 := by
      rw [List.getD_eq_getElem _ _ hlt]
      exact hcells _ (List.getElem_mem hlt)
    rw [resultByte_pointBytes_cell hlt, toNat_byteOf (by omega)]
  case state => exact field_of_bits hflags (by decide) (packBits_stateBits p.state)
  case condition => exact bitSays_of_bits hflags (by decide) beq_iff_eq
  case asserted =>
    refine bitSays_of_bits hflags (by decide) ((hostFlag_iff (p.run.asserted == .abnormal) p).trans ?_)
    rw [beq_iff_eq]
  case stale => exact bitSays_of_bits hflags (by decide) (hostFlag_iff p.run.stale p)
  case silenced => exact bitSays_of_bits hflags (by decide) Iff.rfl
  case mark => exact bitSays_of_bits hflags (by decide) (firstOut_iff hgroups p)
  case age =>
    rw [hageByte]
    exact toNat_byteOf (by omega)
  case unshelved =>
    intro hstate
    rw [hshelfByte]
    exact congrArg byteOf (if_neg hstate)
  case shelved =>
    intro hstate e he hentry
    have hremaining : shelfRemaining s p.number = e.remaining := hentry ▸ shelfRemaining_point hshelf he
    have hle := shelfRemaining_le hshelf p.number
    have hbyte : resultByte (pointBytes s p) (9 + n) = byteOf (shelfRemaining s p.number) :=
      hshelfByte.trans (congrArg byteOf (if_pos hstate))
    rw [hbyte, toNat_byteOf (by omega), hremaining]

end Sys2Proof.Proofs
end

section
/-! READ-INPUTS. -/

namespace Sys2Proof.Machine

theorem length_modeBits (m : LineMode) : m.bits.length = 2 := by cases m <;> rfl

theorem length_inputBytes (s : State) : (inputBytes s).length = 16 := rfl

/-! The four runs of bytes in the order of R187: three bytes each of raw levels, filtered states and qualified states, six of
modes. -/

theorem resultByte_inputBytes_raw {k : Nat} (hpos : 0 < k) (hle : k ≤ 3) (s : State) :
    resultByte (inputBytes s) k = resultByte (flagBytes 3 fun n => (lineAt s n).raw == .high) k := by
  simp only [inputBytes, List.append_assoc]
  exact resultByte_append_left hpos hle

theorem resultByte_inputBytes_filtered {k : Nat} (hpos : 0 < k) (hle : k ≤ 3) (s : State) :
    resultByte (inputBytes s) (k + 3) = resultByte (flagBytes 3 fun n => (lineAt s n).filtered == .abnormal) k := by
  simp only [inputBytes, List.append_assoc]
  rw [resultByte_append_right (by rw [length_flagBytes, Nat.add_comm]) hpos]
  exact resultByte_append_left hpos hle

theorem resultByte_inputBytes_qualified {k : Nat} (hpos : 0 < k) (hle : k ≤ 3) (s : State) :
    resultByte (inputBytes s) (k + 6) = resultByte (flagBytes 3 fun n => (lineAt s n).qualified == .abnormal) k := by
  simp only [inputBytes, List.append_assoc]
  rw [resultByte_append_right (k := k + 3) (by rw [length_flagBytes]; omega) (by omega),
    resultByte_append_right (by rw [length_flagBytes, Nat.add_comm]) hpos]
  exact resultByte_append_left hpos hle

theorem resultByte_inputBytes_modes {m : Nat} (h : m < 6) (s : State) :
    resultByte (inputBytes s) (m + 10) = byteOfBits ((List.range 4).flatMap fun j => (lineAt s (4 * m + j)).mode.bits) := by
  have hm : (List.range 6)[m]? = some m := by rw [List.getElem?_range h]
  rw [inputBytes, resultByte_append_left (by omega) (by simp; omega),
    resultByte_append_right (k := m + 1) (by simp; omega) (by omega)]
  exact resultByte_map _ hm

/-- The two bits of a line's mode are a field of the modes byte of its four lines (R187). -/
theorem field_inputBytes_mode {n : Nat} (h : n < 24) (s : State) :
    field (resultByte (inputBytes s) (n / 4 + 10)) (2 * (n % 4)) 2 = packBits (lineAt s n).mode.bits := by
  have hj : (List.range 4)[n % 4]? = some (n % 4) := by rw [List.getElem?_range (Nat.mod_lt n (by decide))]
  refine field_of_bits (resultByte_inputBytes_modes (by omega) s) (by omega) ?_
  rw [take_drop_flatMap_two (fun _ => length_modeBits _) hj, Nat.div_add_mod]

/-- A byte of a run of line flags says of each of its lines what the flag says (R187). -/
theorem bitSays_lineFlag {s : State} (h : LinesOk s) {L : Line} (hL : L ∈ s.lines) {r : List Byte} {k : Nat} {flag : Line → Bool}
    {P : Prop} (hbyte : resultByte r k = resultByte (flagBytes 3 fun n => flag (lineAt s n)) (L.number / 8 + 1))
    (hflag : flag L = true ↔ P) : BitSays r k (L.number % 8) P := by
  have hbit := bitSays_flagBytes (bytes := 3) (number_lt_of_linesOk h hL) fun n => flag (lineAt s n)
  rw [BitSays, ← hbyte, lineAt_number h hL] at hbit
  exact hbit.trans hflag

end Sys2Proof.Machine

namespace Sys2Proof.Proofs
open Sys2Proof.Machine

/-- Settles O48: the four flags of a line, each in its run of bytes, then the byte of the keys. -/
theorem readInputs : Obligations.ReadInputs := by
  intro s hrec hwaves hlines
  refine ⟨inputBytes s, exec_of_effect_ready rfl hrec rfl hwaves, length_inputBytes s, ?lines, ?ack, ?silence, ?clear, ?test,
    ?ackEnable, ?silenceEnable, ?clearEnable, ?testEnable⟩
  case lines =>
    intro L hL
    have hn : L.number < 24 := number_lt_of_linesOk hlines hL
    have hrun : 0 < L.number / 8 + 1 ∧ L.number / 8 + 1 ≤ 3 := by omega
    have hmode : field (resultByte (inputBytes s) (L.number / 4 + 10)) (2 * (L.number % 4)) 2 = packBits L.mode.bits := by
      rw [field_inputBytes_mode hn, lineAt_number hlines hL]
    refine ⟨?raw, ?filtered, ?qualified, ?disabled, ?tracking, ?chatter⟩
    case raw =>
      exact bitSays_lineFlag (flag := fun L => L.raw == .high) hlines hL
        (resultByte_inputBytes_raw hrun.1 hrun.2 s) beq_iff_eq
    case filtered =>
      exact bitSays_lineFlag (flag := fun L => L.filtered == .abnormal) hlines hL
        (resultByte_inputBytes_filtered hrun.1 hrun.2 s) beq_iff_eq
    case qualified =>
      rw [qualifiedByMode_eq]
      exact bitSays_lineFlag (flag := fun L => L.qualified == .abnormal) hlines hL
        (resultByte_inputBytes_qualified hrun.1 hrun.2 s) beq_iff_eq
    case disabled => intro hm; rw [hmode, hm]; rfl
    case tracking => intro hm; rw [hmode, hm]; rfl
    case chatter => intro hm; rw [hmode, hm]; rfl
  case ack => exact bitSays_of_bits rfl (by decide) beq_iff_eq
  case silence => exact bitSays_of_bits rfl (by decide) beq_iff_eq
  case clear => exact bitSays_of_bits rfl (by decide) beq_iff_eq
  case test => exact bitSays_of_bits rfl (by decide) beq_iff_eq
  case ackEnable => exact bitSays_of_bits rfl (by decide) Iff.rfl
  case silenceEnable => exact bitSays_of_bits rfl (by decide) Iff.rfl
  case clearEnable => exact bitSays_of_bits rfl (by decide) Iff.rfl
  case testEnable => exact bitSays_of_bits rfl (by decide) Iff.rfl

end Sys2Proof.Proofs
end

section
/-! SUPPORT. The resolved pattern, lit-now and shown, by the tables of R61, R119, R121 and R126. -/

namespace Sys2Proof.Machine

theorem contribution_rank (st : PointState) (mark : Bool) : (contribution st mark).rank = contributionCode st mark := by
  cases st <;> cases mark <;> rfl

theorem higher_rank (a b : Pattern) : (a.higher b).rank = max a.rank b.rank := by
  unfold Pattern.higher
  split
  · next hlt => exact (Nat.max_eq_right hlt.le).symm
  · next hle => exact (Nat.max_eq_left (Nat.le_of_not_lt hle)).symm

/-- The rank of the highest pattern is the highest rank, 0 without patterns (R119). -/
theorem foldr_higher_rank {α : Type} (f : α → Pattern) (l : List α) :
    (l.foldr (fun x acc => (f x).higher acc) .off).rank = (l.map fun x => (f x).rank).foldr max 0 := by
  induction l with
  | nil => rfl
  | cons x xs ih => rw [List.foldr_cons, higher_rank, ih, List.map_cons, List.foldr_cons]

/-- The code of the resolved pattern is the highest code among the binders (R118, R119). -/
theorem resolved_rank {s : State} (h : GroupsOk s) (cell : Nat) : (resolved s cell).rank = resolvedCode s cell := by
  have hbinders : binders s cell = s.points.filter fun p => decide (cell ∈ p.defn.cells) := by
    simp only [binders, List.contains_eq_mem]
  have hmark (p : Point) : firstOut s.groups p = decide (Marked s p) := by
    rw [Bool.eq_iff_iff, firstOut_iff h, decide_eq_true_iff]
  rw [resolved, foldr_higher_rank, hbinders]
  simp only [contribution_rank, hmark]
  rfl

theorem rank_le (p : Pattern) : p.rank ≤ 5 := by cases p <;> decide

/-- A pattern is lit in the slots of 128 ticks that R121 names. -/
theorem lit_iff {c : Nat} (h : c < 2048) (p : Pattern) : p.lit c = true ↔ c / 128 ∈ litSlots p.rank := by
  cases p with
  | off => simp [Pattern.lit, Pattern.rank, litSlots]
  | steady | wink | slow | fast | first =>
    simp only [Pattern.lit, Pattern.rank, litSlots, List.mem_range, List.mem_cons, List.not_mem_nil, or_false, decide_eq_true_eq,
      Bool.or_eq_true, Bool.and_eq_true, true_iff]
    omega

/-- The four cases of R126: test, no pattern, a quiet panel, and the pattern itself. -/
theorem litNow_iff {s : State} (hgroups : GroupsOk s) (htime : s.time.cycle < 2048) (cell : Nat) :
    litNow s cell = true ↔ LitNow s cell := by
  have hlit := lit_iff htime (resolved s cell)
  unfold LitNow
  rw [← resolved_rank hgroups, ← testActive_iff, ← hlit, litNow]
  by_cases htest : testActive s = true
  · simp [htest]
  cases hpattern : resolved s cell with
  | off => simp [htest, Pattern.rank]
  | steady | wink => cases hquiet : s.display.quiet <;> simp [htest, Pattern.rank]
  | slow | fast | first => simp [htest, Pattern.rank]

theorem shown_iff (s : State) (cell : Nat) : shown s.display cell = true ↔ Shown s cell := by
  rw [shown, Bool.and_eq_true, beq_iff_eq, decide_eq_true_iff]
  rfl

end Sys2Proof.Machine
end

section
/-! READ-CELLS. -/

namespace Sys2Proof.Machine

/-- A range of cells that is empty, too long or beyond cell 159 is refused (R135). -/
theorem readCells_refused {first count : Byte}
    (h : count.toNat = 0 ∨ 32 < count.toNat ∨ 159 < first.toNat ∨ 160 < first.toNat + count.toNat) (s : State) :
    readCells first count s = .refuse s .badArgument := by
  unfold readCells
  split
  · rfl
  · next hcount => exact if_pos (by simp only [Config.maxCells, Config.cellCount] at *; omega)

/-- The result of a READ-CELLS (R188). -/
def cellsBytes (first count : Nat) (s : State) : List Byte :=
  cellHeader s ++ (List.range count).map fun k => cellByte s (first + k)

/-- Any other range is read (R135). -/
theorem readCells_accepted {first count : Byte} (hlow : 1 ≤ count.toNat) (hhigh : count.toNat ≤ 32)
    (hlast : first.toNat + count.toNat ≤ 160) (s : State) :
    readCells first count s = .read s (cellsBytes first.toNat count.toNat s) := by
  have hcount : ¬ (count.toNat = 0 ∨ Config.maxCells < count.toNat) := by simp only [Config.maxCells]; omega
  have hrange : ¬ (Config.cellCount ≤ first.toNat ∨ Config.cellCount < first.toNat + count.toNat) := by
    simp only [Config.cellCount]; omega
  rw [readCells, if_neg hcount, if_neg hrange, cellsBytes]

theorem length_cellsBytes (first count : Nat) (s : State) : (cellsBytes first count s).length = 4 + count := by
  rw [cellsBytes, List.length_append, List.length_map, List.length_range]
  rfl

/-- The record of the `k`-th cell is byte `5 + k` (R188). -/
theorem resultByte_cellsBytes {first count k : Nat} (h : k < count) (s : State) :
    resultByte (cellsBytes first count s) (5 + k) = cellByte s (first + k) := by
  have hk : (List.range count)[k]? = some k := by rw [List.getElem?_range h]
  have hheader : (cellHeader s).length = 4 := rfl
  rw [cellsBytes, resultByte_append_right (k := k + 1) (by omega) (by omega)]
  exact resultByte_map _ hk

/-- The commons byte holds both commons values, three bits each (R188). -/
theorem field_commonsByte {a b : Nat} (lo width : Nat) :
    field (byteOf (a % 8 + 16 * (b % 8))) lo width = (a % 8 + 16 * (b % 8)) / 2 ^ lo % 2 ^ width :=
  field_byteOf (by omega) lo width

/-- The record of a cell is its pattern code, lit-now in bit 3 and shown in bit 4 (R136, R188). -/
theorem field_cellByte (s : State) (cell lo width : Nat) :
    field (cellByte s cell) lo width =
      ((resolved s cell).rank + 8 * (litNow s cell).toNat + 16 * (shown s.display cell).toNat) / 2 ^ lo % 2 ^ width := by
  have hrank := rank_le (resolved s cell)
  have hlit := (litNow s cell).toNat_le
  have hshown := (shown s.display cell).toNat_le
  exact field_byteOf (by omega) lo width

theorem cellByte_pattern (s : State) (cell : Nat) : field (cellByte s cell) 0 3 = (resolved s cell).rank := by
  have hrank := rank_le (resolved s cell)
  rw [field_cellByte]
  omega

theorem cellByte_litNow (s : State) (cell : Nat) : (cellByte s cell).getLsbD 3 = true ↔ litNow s cell = true := by
  have hrank := rank_le (resolved s cell)
  rw [getLsbD_iff_field, field_cellByte]
  cases litNow s cell <;> simp <;> omega

theorem cellByte_shown (s : State) (cell : Nat) : (cellByte s cell).getLsbD 4 = true ↔ shown s.display cell = true := by
  have hrank := rank_le (resolved s cell)
  have hlit := (litNow s cell).toNat_le
  rw [getLsbD_iff_field, field_cellByte]
  cases shown s.display cell <;> simp <;> omega

theorem cellByte_unused (s : State) (cell : Nat) : field (cellByte s cell) 5 3 = 0 := by
  have hrank := rank_le (resolved s cell)
  have hlit := (litNow s cell).toNat_le
  have hshown := (shown s.display cell).toNat_le
  rw [field_cellByte]
  omega

end Sys2Proof.Machine

namespace Sys2Proof.Proofs
open Sys2Proof.Machine

/-- Settles O52: the four bytes of the header, then the record of each cell (R188). -/
theorem readCells : Obligations.ReadCells := by
  rintro s first count hrec hwaves ⟨-, hgroups, -, -⟩ htime hdisplay
  refine ⟨fun hbad => exec_of_effect_ready rfl hrec (readCells_refused hbad s) hwaves, ?_⟩
  intro hlow hhigh hlast
  have hcycle : s.time.cycle < 2048 := htime.2.1
  obtain ⟨-, hcommons, -, hpending, -⟩ := hdisplay
  have hbyte1 : resultByte (cellsBytes first.toNat count.toNat s) 1 = byteOfBits (s.display.drive.bits ++
    [s.display.quiet, s.display.commandTest, keyTest s, testActive s]) := rfl
  have hbyte2 (lo width : Nat) : field (resultByte (cellsBytes first.toNat count.toNat s) 2) lo width =
      (s.display.commons % 8 + 16 * (s.display.commonsPending % 8)) / 2 ^ lo % 2 ^ width := field_commonsByte lo width
  refine ⟨cellsBytes first.toNat count.toNat s, exec_of_effect_ready rfl hrec (readCells_accepted hlow hhigh hlast s) hwaves,
    length_cellsBytes .., ?drive, ?quiet, ?command, ?key, ?test, ?unused, ?commons, ?pending, ?bit3, ?bit7, ?cycle, ?cells⟩
  case drive =>
    rw [field_of_bits hbyte1 (by decide) rfl]
    exact showsDrive_packBits s.display.drive
  case quiet => exact bitSays_of_bits hbyte1 (by decide) Iff.rfl
  case command => exact bitSays_of_bits hbyte1 (by decide) Iff.rfl
  case key => exact bitSays_of_bits hbyte1 (by decide) (keyTest_iff s)
  case test => exact bitSays_of_bits hbyte1 (by decide) (testActive_iff s)
  case unused => exact field_of_bits hbyte1 (by decide) rfl
  case commons => rw [hbyte2]; omega
  case pending => rw [hbyte2]; omega
  case bit3 => exact bitSays_false (by rw [hbyte2]; omega)
  case bit7 => exact bitSays_false (by rw [hbyte2]; omega)
  case cycle =>
    have hhi : (resultByte (cellsBytes first.toNat count.toNat s) 3).toNat = s.time.cycle / 256 := toNat_byteOf (by omega)
    have hlo : (resultByte (cellsBytes first.toNat count.toNat s) 4).toNat = s.time.cycle % 256 := toNat_byteOf (by omega)
    rw [hhi, hlo, Nat.div_add_mod]
  case cells =>
    intro k hk
    have hbyte := resultByte_cellsBytes (first := first.toNat) (List.mem_range.mp hk) s
    simp only [BitSays, hbyte]
    exact ⟨(cellByte_pattern s _).trans (resolved_rank hgroups _), (cellByte_litNow s _).trans (litNow_iff hgroups hcycle _),
      (cellByte_shown s _).trans (shown_iff s _), cellByte_unused s _⟩

end Sys2Proof.Proofs
end

section
/-! SUPPORT. Requests, governing priorities and sounding, by the tables of R141 to R145. -/

namespace Sys2Proof.Machine

theorem requesting_iff (h : HornId) (p : Point) : requesting h p = true ↔ Requests h p := by
  cases h with
  | horn1 => simp [requesting, Requests, unacknowledged_iff, and_assoc]
  | horn2 => simp [requesting, Requests, and_assoc]

theorem hornRequest_iff (s : State) (h : HornId) : hornRequest s h = true ↔ ∃ p ∈ s.points, Requests h p := by
  simp only [hornRequest, List.any_eq_true, requesting_iff]

/-- Without a requesting point the governing priority is 0 (R143). -/
theorem governing_of_none {s : State} {h : HornId} (hnone : ∀ p ∈ s.points, ¬ Requests h p) : governing s h = 0 := by
  have hempty : s.points.filter (requesting h) = [] :=
    List.filter_eq_nil_iff.mpr fun p hp hreq => hnone p hp ((requesting_iff h p).mp hreq)
  rw [governing, hempty]
  rfl

/-- With requesting points it is the priority of one of them, and of no lower rank than any (R143). -/
theorem governing_of_some {s : State} {h : HornId} (hsome : ∃ p ∈ s.points, Requests h p) :
    (∃ p ∈ s.points, Requests h p ∧ p.defn.priority = governing s h) ∧
      ∀ p ∈ s.points, Requests h p → governing s h ≤ p.defn.priority := by
  have hmem (p : Point) : p ∈ s.points.filter (requesting h) ↔ p ∈ s.points ∧ Requests h p := by
    rw [List.mem_filter, requesting_iff]
  cases hmin : ((s.points.filter (requesting h)).map fun p => p.defn.priority).min? with
  | none =>
    obtain ⟨p, hp, hreq⟩ := hsome
    have hempty : s.points.filter (requesting h) = [] := List.map_eq_nil_iff.mp (List.min?_eq_none_iff.mp hmin)
    exact absurd ((hmem p).mpr ⟨hp, hreq⟩) (by rw [hempty]; exact List.not_mem_nil)
  | some n =>
    have hgov : governing s h = n := by rw [governing, hmin, Option.getD_some]
    obtain ⟨hattained, hleast⟩ := List.min?_eq_some_iff.mp hmin
    obtain ⟨p, hp, hprio⟩ := List.mem_map.mp hattained
    obtain ⟨hpoint, hreq⟩ := (hmem p).mp hp
    rw [hgov]
    exact ⟨⟨p, hpoint, hreq, hprio⟩, fun q hq hreq' => hleast _ (List.mem_map_of_mem ((hmem q).mpr ⟨hq, hreq'⟩))⟩

theorem governs_governing (s : State) (h : HornId) : Governs s h (governing s h) :=
  ⟨governing_of_none, governing_of_some⟩

/-- Priorities are 1 to 4, so a governing priority is at most 4 (R2, R143). -/
theorem governing_le {s : State} (htable : TableOk s) (h : HornId) : governing s h ≤ 4 := by
  by_cases hsome : ∃ p ∈ s.points, Requests h p
  · obtain ⟨⟨p, hp, -, hprio⟩, -⟩ := governing_of_some hsome
    obtain ⟨⟨-, -, -, -, hle, -⟩, -⟩ := htable.2 p hp
    exact hprio ▸ hle
  · have hnone : ∀ p ∈ s.points, ¬ Requests h p := fun p hp hreq => hsome ⟨p, hp, hreq⟩
    rw [governing_of_none hnone]
    decide

/-- A priority's pattern is on in the slots of 256 ticks that R144 names. -/
theorem onPhase_iff {c : Nat} (h : c < 2048) (n : Nat) : onPhase n c = true ↔ c / 256 ∈ onSlots n := by
  match n with
  | 0 | n + 5 => simp [onPhase, onSlots]
  | 1 | 2 | 3 | 4 =>
    simp only [onPhase, onSlots, List.mem_cons, List.not_mem_nil, or_false, decide_eq_true_eq, true_iff]
    omega

/-- A horn sounds while it is enabled and its governing priority's pattern is on (R145). -/
theorem sounding_iff {s : State} (htime : s.time.cycle < 2048) (h : HornId) : sounding s h = true ↔ Sounds s h := by
  rw [sounding, Bool.and_eq_true, Bool.and_eq_true, hornRequest_iff, onPhase_iff htime, and_assoc]
  refine and_congr_right fun _ => ⟨?_, ?_⟩
  · rintro ⟨hsome, hon⟩
    obtain ⟨⟨p, hp, hreq, hprio⟩, hleast⟩ := governing_of_some hsome
    rw [← hprio] at hon hleast
    exact ⟨p, hp, hreq, hleast, hon⟩
  · rintro ⟨p, hp, hreq, hleast, hon⟩
    obtain ⟨⟨q, hq, hreq', hprio⟩, hle⟩ := governing_of_some ⟨p, hp, hreq⟩
    have hgov : governing s h = p.defn.priority := Nat.le_antisymm (hle p hp hreq) (hprio ▸ hleast q hq hreq')
    exact ⟨⟨p, hp, hreq⟩, hgov ▸ hon⟩

theorem cmn_iff (s : State) : cmn s = true ↔ AlarmPresent s ∧ s.output.gap = none := by
  rw [cmn, Bool.and_eq_true, alarmPresent_iff, Option.isNone_iff_eq_none]

end Sys2Proof.Machine
end

section
/-! READ-OUTPUTS. -/

namespace Sys2Proof.Machine

/-- The priorities byte holds both governing priorities, three bits each (R189). -/
theorem field_prioritiesByte {s : State} (htable : TableOk s) (lo width : Nat) :
    field (resultByte (outputBytes s) 2) lo width = (governing s .horn1 + 16 * governing s .horn2) / 2 ^ lo % 2 ^ width := by
  have h1 := governing_le htable .horn1
  have h2 := governing_le htable .horn2
  exact field_byteOf (by omega) lo width

/-- A tone pending reads as its number, 0 when there is none (R189). -/
theorem tonePending_le {x : Option Nat} (h : ∀ n ∈ x, 1 ≤ n ∧ n ≤ 63) : x.getD 0 ≤ 63 := by
  cases x with
  | none => decide
  | some n => exact (h n rfl).2

end Sys2Proof.Machine

namespace Sys2Proof.Proofs
open Sys2Proof.Machine

/-- Settles O54, byte by byte in the order of R189. -/
theorem readOutputs : Obligations.ReadOutputs := by
  rintro s hrec hwaves ⟨htable, -, -, -⟩ htime ⟨⟨-, htone1, hpending1, -⟩, ⟨-, htone2, hpending2, -⟩, -⟩
  have hcycle : s.time.cycle < 2048 := htime.2.1
  have hle1 := governing_le htable .horn1
  have hle2 := governing_le htable .horn2
  have hpriorities := field_prioritiesByte htable
  refine ⟨outputBytes s, exec_of_effect_ready rfl hrec rfl hwaves, rfl, ?request1, ?request2, ?enable1, ?enable2, ?sounds1,
    ?sounds2, ?retrigger, ?bit7, ?governs1, ?governs2, ?priorities3, ?priorities7, ?tone1, ?pending1, ?tone2, ?pending2, ?alarm,
    ?cmn, ?gap, ?unused⟩
  case request1 => exact bitSays_of_bits rfl (by decide) (hornRequest_iff s .horn1)
  case request2 => exact bitSays_of_bits rfl (by decide) (hornRequest_iff s .horn2)
  case enable1 => exact bitSays_of_bits rfl (by decide) Iff.rfl
  case enable2 => exact bitSays_of_bits rfl (by decide) Iff.rfl
  case sounds1 => exact bitSays_of_bits rfl (by decide) (sounding_iff hcycle .horn1)
  case sounds2 => exact bitSays_of_bits rfl (by decide) (sounding_iff hcycle .horn2)
  case retrigger => exact bitSays_of_bits rfl (by decide) Iff.rfl
  case bit7 => exact bitSays_false (field_of_bits rfl (by decide) rfl)
  case governs1 =>
    have hfield : field (resultByte (outputBytes s) 2) 0 3 = governing s .horn1 := by rw [hpriorities]; omega
    rw [hfield]
    exact governs_governing s .horn1
  case governs2 =>
    have hfield : field (resultByte (outputBytes s) 2) 4 3 = governing s .horn2 := by rw [hpriorities]; omega
    rw [hfield]
    exact governs_governing s .horn2
  case priorities3 => exact bitSays_false (by rw [hpriorities]; omega)
  case priorities7 => exact bitSays_false (by rw [hpriorities]; omega)
  case tone1 => exact toNat_byteOf (Nat.lt_of_le_of_lt htone1 (by decide))
  case pending1 => exact toNat_byteOf (Nat.lt_of_le_of_lt (tonePending_le hpending1) (by decide))
  case tone2 => exact toNat_byteOf (Nat.lt_of_le_of_lt htone2 (by decide))
  case pending2 => exact toNat_byteOf (Nat.lt_of_le_of_lt (tonePending_le hpending2) (by decide))
  case alarm => exact bitSays_of_bits rfl (by decide) (alarmPresent_iff s)
  case cmn => exact bitSays_of_bits rfl (by decide) (cmn_iff s)
  case gap => exact bitSays_of_bits rfl (by decide) Option.isSome_iff_ne_none
  case unused => exact field_of_bits rfl (by decide) rfl

end Sys2Proof.Proofs
end

section
/-! SUPPORT. What stands around the units: the pins, the port and the queue. No event and no effect of a command reads any
of it, so each answers the same whatever stands there, and leaves it as it is (R158, log 8). -/

namespace Sys2Proof.Machine

/-- The parts of the state that no unit reads: the pins RSTN and CS, the port, and the queue. -/
structure Surroundings where
  rstn    : Bool
  cs      : Bool
  port    : Port
  pending : List Instr

/-- The state with other surroundings. -/
def State.within (s : State) (e : Surroundings) : State :=
  { s with rstn := e.rstn, cs := e.cs, port := e.port, pending := e.pending }

/-- The surroundings of a state. -/
def State.surroundings (s : State) : Surroundings := { rstn := s.rstn, cs := s.cs, port := s.port, pending := s.pending }

@[simp] theorem State.within_surroundings (s : State) : s.within s.surroundings = s := rfl
@[simp] theorem State.surroundings_within (s : State) (e : Surroundings) : (s.within e).surroundings = e := rfl
@[simp] theorem State.within_within (s : State) (e e' : Surroundings) : (s.within e).within e' = s.within e' := rfl

/-- An event that the surroundings play no part in. -/
def Inner (f : State → State) : Prop := ∀ s e, f (s.within e) = (f s).within e

/-- A quantity that the surroundings play no part in. -/
def Unseen {α : Type} (q : State → α) : Prop := ∀ s e, q (s.within e) = q s

/-- An event that the surroundings play no part in leaves them as they are. -/
theorem Inner.surroundings {f : State → State} (h : Inner f) (s : State) : (f s).surroundings = s.surroundings := by
  have hself : f s = (f s).within s.surroundings := h s s.surroundings
  rw [hself, State.surroundings_within]

theorem Inner.rstn {f : State → State} (h : Inner f) (s : State) : (f s).rstn = s.rstn :=
  congrArg Surroundings.rstn (h.surroundings s)
theorem Inner.cs {f : State → State} (h : Inner f) (s : State) : (f s).cs = s.cs :=
  congrArg Surroundings.cs (h.surroundings s)
theorem Inner.port {f : State → State} (h : Inner f) (s : State) : (f s).port = s.port :=
  congrArg Surroundings.port (h.surroundings s)
theorem Inner.pending {f : State → State} (h : Inner f) (s : State) : (f s).pending = s.pending :=
  congrArg Surroundings.pending (h.surroundings s)

theorem inner_id : Inner id := fun _ _ => rfl

theorem Inner.comp {f g : State → State} (hf : Inner f) (hg : Inner g) : Inner fun s => f (g s) := by
  intro s e
  simp only [hg s e, hf (g s) e]

theorem Inner.ite {c : State → Prop} [∀ s, Decidable (c s)] {f g : State → State} (hc : ∀ s e, c (State.within s e) ↔ c s)
    (hf : Inner f) (hg : Inner g) : Inner fun s => if c s then f s else g s := by
  intro s e
  by_cases h : c s
  · simp only [if_pos h, if_pos ((hc s e).mpr h), hf s e]
  · simp only [if_neg h, if_neg (mt (hc s e).mp h), hg s e]

/-- Several events one after the other. -/
theorem Inner.foldl {fs : List (State → State)} (h : ∀ f ∈ fs, Inner f) : Inner fun s => fs.foldl (fun s f => f s) s := by
  induction fs with
  | nil => exact inner_id
  | cons f fs ih =>
    exact (ih fun g hg => h g (List.mem_cons_of_mem f hg)).comp (h f List.mem_cons_self)

/-! ### The events of the timebase -/

theorem inner_restHorns : Inner restHorns := fun _ _ => rfl
theorem inner_chatterExpiry : Inner chatterExpiry := Inner.ite (fun _ _ => Iff.rfl) (fun _ _ => rfl) inner_id

/-- The batch of the lines as they stand, delivered when it is not empty (R73). -/
def deliverLines (s : State) : State := if (batchOf s.lines).isEmpty then s else deliver (batchOf s.lines) s

theorem conditionBatch_eq (s : State) : conditionBatch s = if isReady s then deliverLines (chatterExpiry s) else s := rfl

theorem inner_deliverLines : Inner deliverLines := Inner.ite (fun _ _ => Iff.rfl) inner_id (fun _ _ => rfl)
theorem inner_conditionBatch : Inner conditionBatch :=
  Inner.ite (fun _ _ => Iff.rfl) (inner_deliverLines.comp inner_chatterExpiry) inner_id

theorem inner_keyEvent (k : ActionKey) : Inner (keyEvent k) := by cases k <;> exact fun _ _ => rfl
theorem inner_keyAction (k : ActionKey) : Inner (keyAction k) :=
  Inner.ite (fun _ _ => Iff.rfl)
    (Inner.ite (fun _ _ => Iff.rfl) ((inner_keyEvent k).comp (g := fun s => s.withKeys (s.keys.takeDue k)) fun _ _ => rfl)
      fun _ _ => rfl)
    inner_id

theorem inner_leaseExpiry : Inner leaseExpiry :=
  Inner.ite (fun _ _ => Iff.rfl) (Inner.ite (fun _ _ => Iff.rfl) (fun _ _ => rfl) fun _ _ => rfl) inner_id
theorem inner_minuteExpiry : Inner minuteExpiry := Inner.ite (fun _ _ => Iff.rfl) (fun _ _ => rfl) inner_id
theorem inner_settleEndEvent : Inner settleEndEvent := fun _ _ => rfl
theorem inner_settleEnd : Inner settleEnd := Inner.ite (fun _ _ => Iff.rfl) inner_settleEndEvent inner_id
theorem inner_gapEnd : Inner gapEnd := Inner.ite (fun _ _ => Iff.rfl) (fun _ _ => rfl) inner_id
theorem inner_warmUpEnd : Inner warmUpEnd := Inner.ite (fun _ _ => Iff.rfl) (fun _ _ => rfl) inner_id
theorem inner_takeWrap : Inner takeWrap := Inner.ite (fun _ _ => Iff.rfl) (fun _ _ => rfl) inner_id
theorem inner_takeFrame (c : Nat) : Inner (takeFrame c) := by
  intro s e
  unfold takeFrame
  dsimp only [State.within, State.withDisplay]
  split <;> rfl
theorem inner_frameBoundary : Inner frameBoundary := by
  refine Inner.ite (fun _ _ => Iff.rfl) ?_ inner_id
  intro s e
  exact congrArg (fun t => State.withTime t _) (inner_takeFrame s.time.cycle s e)
theorem inner_frameAheadEvent : Inner frameAheadEvent := by
  intro s e
  exact congrArg (fun t => State.withTime t _) (inner_takeFrame (nextCycle s.time.cycle) s e)
theorem inner_halfWaveEnd (h : HornId) : Inner (halfWaveEnd h) := Inner.ite (fun _ _ => Iff.rfl) (fun _ _ => rfl) inner_id

/-- Every event that can be due on a tick. -/
theorem inner_dueEvents {f : State → State} (h : f ∈ dueEvents) : Inner f := by
  simp only [dueEvents, List.mem_cons, List.not_mem_nil, or_false] at h
  obtain rfl | rfl | rfl | rfl | rfl | rfl | rfl | rfl | rfl | rfl | rfl | rfl | rfl | rfl := h
  · exact inner_chatterExpiry
  · exact inner_conditionBatch
  · exact inner_keyAction .ack
  · exact inner_keyAction .silence
  · exact inner_keyAction .clear
  · exact inner_leaseExpiry
  · exact inner_minuteExpiry
  · exact inner_settleEnd
  · exact inner_gapEnd
  · exact inner_warmUpEnd
  · exact inner_takeWrap
  · exact inner_frameBoundary
  · exact inner_halfWaveEnd .horn1
  · exact inner_halfWaveEnd .horn2

theorem takeDue_eq_foldl (s : State) :
    takeDue s = (dueEvents.map fun f s => restHorns (f s)).foldl (fun s f => f s) s := by
  rw [takeDue, List.foldl_map]

theorem inner_takeDue : Inner takeDue := by
  intro s e
  simp only [takeDue_eq_foldl]
  refine Inner.foldl (fun g hg => ?_) s e
  obtain ⟨f, hf, rfl⟩ := List.mem_map.mp hg
  exact inner_restHorns.comp (inner_dueEvents hf)

theorem inner_advanceWaves : Inner advanceWaves := fun _ _ => rfl

theorem inner_refclkPeriod (lines : BitVec 24) (keys : BitVec 4) : Inner (refclkPeriod lines keys) := by
  intro s e
  unfold refclkPeriod
  simp only [inner_takeDue s e, inner_advanceWaves (takeDue s) e]
  generalize advanceWaves (takeDue s) = t
  change (if t.time.prescaler + 1 < Config.prescale then _ else _) = _
  split <;> rfl

theorem inner_refclkPeriods (lines : BitVec 24) (keys : BitVec 4) (n : Nat) : Inner (refclkPeriods lines keys n) := by
  induction n with
  | zero => exact inner_id
  | succ n ih => exact ih.comp (inner_refclkPeriod lines keys)

end Sys2Proof.Machine
end

section
/-! SUPPORT. The effect of a host command apart from its taking, and the taking over it (R160). -/

namespace Sys2Proof.Machine

/-- The effect of a host command, with the BUSY of R164; an event that is no host command has none. -/
def commandEffect : Instr → State → Answer
  | .readStatus => readStatus
  | .readChanges m => unlessBusy (readChanges m)
  | .configureNotify c e => unlessBusy (configureNotify c e)
  | .echo v => unlessBusy fun s => .read s [v, ~~~v]
  | .restart => unlessBusy fun s => .ok (restartEvent s)
  | .resetDevice => Answer.ok
  | .definePoint b => unlessBusy (definePoint b)
  | .modifyPoint b => unlessBusy (modifyPoint b)
  | .retirePoint p => unlessBusy (retirePoint p)
  | .readPoint p => unlessBusy (readPoint p)
  | .readDefined => unlessBusy fun s => .read s (occupancyBytes s)
  | .assert p v => unlessBusy (assertPoint p v)
  | .refreshAll => unlessBusy fun s => .ok (pointEvent refresh s)
  | .configureLease i => unlessBusy (configureLease i)
  | .acknowledge sc => unlessBusy (withScope sc ackCount acknowledgeEvent)
  | .silence sc => unlessBusy (withScope sc silenceCount silenceEvent)
  | .clear sc => unlessBusy (withScope sc clearCount clearEvent)
  | .shelve p m => unlessBusy (shelvePoint p m)
  | .unshelve p => unlessBusy (unshelvePoint p)
  | .readShelf => unlessBusy fun s => .read s (shelfBytes s)
  | .configureGroup g e r => unlessBusy (configureGroup g e r)
  | .releaseGroup g => unlessBusy (releaseGroup g)
  | .readGroup g => unlessBusy (readGroup g)
  | .configureInput l e nl f c => unlessBusy (configureInput l e nl f c)
  | .readInputs => unlessBusy fun s => .read s (inputBytes s)
  | .configureKeys a si c t => unlessBusy (configureKeys a si c t)
  | .configureDisplay p c q => unlessBusy (configureDisplay p c q)
  | .setOverride t => unlessBusy (setOverride t)
  | .readCells f c => unlessBusy (readCells f c)
  | .configureHorn h e n r => unlessBusy (configureHorn h e n r)
  | .readOutputs => unlessBusy fun s => .read s (outputBytes s)
  | .unknownCommand _ => unknownCode
  | _ => Answer.ok

/-- The taking of a command by the port is its effect, answered to its bytes (R160). -/
theorem takeCommand_eq {i : Instr} {bytes : List Byte} (h : hostBytes i = some bytes) :
    takeCommand i = taken bytes (commandEffect i) := by
  cases i <;> cases h <;> rfl

/-- The row of a well-formed host command is its taking (log 3). -/
theorem exec_eq_atTaking {i : Instr} {bytes : List Byte} (hw : i.WellFormed) (h : hostBytes i = some bytes) (s : State) :
    exec i s = atTaking (takeCommand i) s := by
  cases i with
  | definePoint b => exact if_pos (of_decide_eq_true hw)
  | modifyPoint b => exact if_pos (of_decide_eq_true hw)
  | unknownCommand c =>
    have hunknown : (arity c).isNone = true := Option.isNone_iff_eq_none.mpr (of_decide_eq_true hw)
    exact if_pos hunknown
  | _ => cases h <;> rfl

end Sys2Proof.Machine
end

section
/-! SUPPORT. The definition that a block spells (R10 step 3, R182). -/

namespace Sys2Proof.Machine

theorem pointOf_of_le {b : Byte} (h : b.toNat ≤ 63) : pointOf b = some b.toNat := numberIn_of_mem (Nat.zero_le _) h
theorem pointOf_of_lt {b : Byte} (h : 63 < b.toNat) : pointOf b = none := numberIn_of_lt (.inr h)

/-- A source byte in range names a line or HOST (R182). -/
theorem sourceOf_of_mem {b : Byte} (h : b.toNat ≤ 0x17 ∨ b = 0x80) :
    sourceOf b = some (if b = 0x80 then .host else .line b.toNat) := by
  rcases h with hline | rfl
  · have hhost : b ≠ 0x80 := by rintro rfl; exact absurd hline (by decide)
    rw [sourceOf, if_pos hline, if_neg hhost]
  · rfl

theorem sourceOf_of_not_mem {b : Byte} (h : ¬ (b.toNat ≤ 0x17 ∨ b = 0x80)) : sourceOf b = none := by
  obtain ⟨hline, hhost⟩ := not_or.mp h
  rw [sourceOf, if_neg hline, if_neg hhost]

theorem sequenceOf_of_le {b : Byte} (h : b.toNat ≤ 2) :
    sequenceOf b = some (if b = 0x00 then .auto else if b = 0x01 then .lock else .ringback) := by
  have hcases : b.toNat = 0 ∨ b.toNat = 1 ∨ b.toNat = 2 := by omega
  rcases hcases with h0 | h1 | h2
  · obtain rfl : b = 0x00 := BitVec.eq_of_toNat_eq h0
    rfl
  · obtain rfl : b = 0x01 := BitVec.eq_of_toNat_eq h1
    rfl
  · obtain rfl : b = 0x02 := BitVec.eq_of_toNat_eq h2
    rfl

theorem sequenceOf_of_lt {b : Byte} (h : 2 < b.toNat) : sequenceOf b = none := by
  have h0 : b ≠ 0x00 := by rintro rfl; exact absurd h (by decide)
  have h1 : b ≠ 0x01 := by rintro rfl; exact absurd h (by decide)
  have h2 : b ≠ 0x02 := by rintro rfl; exact absurd h (by decide)
  rw [sequenceOf, if_neg h0, if_neg h1, if_neg h2]

/-- Bits 7 and 6 of a byte by its value (R182). -/
theorem getLsbD_seven (b : Byte) : b.getLsbD 7 = decide (128 ≤ b.toNat) := by
  have hlt := b.isLt
  rw [Bool.eq_iff_iff, getLsbD_iff_field, field, decide_eq_true_iff]
  omega

theorem getLsbD_six (b : Byte) : b.getLsbD 6 = decide (64 ≤ b.toNat % 128) := by
  have hlt := b.isLt
  rw [Bool.eq_iff_iff, getLsbD_iff_field, field, decide_eq_true_iff]
  omega

theorem attributesOf_of_mem {b : Byte} (h : b.toNat / 8 % 8 = 0 ∧ 1 ≤ b.toNat % 8 ∧ b.toNat % 8 ≤ 4) :
    attributesOf b = some (decide (128 ≤ b.toNat), decide (64 ≤ b.toNat % 128), b.toNat % 8) := by
  rw [attributesOf, if_pos h, getLsbD_seven, getLsbD_six]

theorem attributesOf_of_not_mem {b : Byte} (h : ¬ (b.toNat / 8 % 8 = 0 ∧ 1 ≤ b.toNat % 8 ∧ b.toNat % 8 ≤ 4)) :
    attributesOf b = none := if_neg h

/-- The cell list of a block is in range: 1 to 4 cells of the panel, none repeated (R3, R10). -/
def CellsInRange (count : Byte) (cells : List Byte) : Prop :=
  1 ≤ count.toNat ∧ count.toNat ≤ 4 ∧ (∀ c ∈ cells, c.toNat ≤ 159) ∧ cells.Nodup

theorem cellsInRange_iff (count : Byte) (cells : List Byte) :
    (1 ≤ count.toNat ∧ count.toNat ≤ 4 ∧ (∀ n ∈ cells.map BitVec.toNat, n < Config.cellCount) ∧
      (cells.map BitVec.toNat).Nodup) ↔ CellsInRange count cells := by
  have hrange : (∀ n ∈ cells.map BitVec.toNat, n < Config.cellCount) ↔ ∀ c ∈ cells, c.toNat ≤ 159 := by
    simp [Config.cellCount, Nat.lt_succ_iff]
  rw [hrange, List.nodup_map_iff fun _ _ => BitVec.eq_of_toNat_eq]
  rfl

theorem cellsOf_of_mem {count : Byte} {cells : List Byte} (h : CellsInRange count cells) :
    cellsOf count cells = some (cells.map BitVec.toNat) := if_pos ((cellsInRange_iff count cells).mpr h)

theorem cellsOf_of_not_mem {count : Byte} {cells : List Byte} (h : ¬ CellsInRange count cells) : cellsOf count cells = none :=
  if_neg fun hin => h ((cellsInRange_iff count cells).mp hin)

/-- A block in range spells the definition that the rules say it writes (R182). -/
theorem definitionOf_inRange {b : DefBlock} (h : BlockInRange b) :
    definitionOf b.number.toNat b = some (definitionWritten b) := by
  obtain ⟨hsource, hsequence, hgroup, hattrs, hlow, hhigh, hcells⟩ := h
  simp only [definitionOf, sourceOf_of_mem hsource, sequenceOf_of_le hsequence, numberIn_of_mem (Nat.zero_le _) hgroup,
    attributesOf_of_mem ⟨hattrs, hlow, hhigh⟩, cellsOf_of_mem hcells]
  rfl

/-- A block with a field out of range spells none (R10 step 3). -/
theorem definitionOf_outOfRange {b : DefBlock} (h : ¬ BlockInRange b) (n : Nat) : definitionOf n b = none := by
  by_cases hsource : b.source.toNat ≤ 0x17 ∨ b.source = 0x80
  case neg => simp [definitionOf, sourceOf_of_not_mem hsource]
  by_cases hsequence : b.sequence.toNat ≤ 2
  case neg => simp [definitionOf, sequenceOf_of_lt (Nat.lt_of_not_le hsequence)]
  by_cases hgroup : b.group.toNat ≤ 8
  case neg => simp [definitionOf, numberIn_of_lt (low := 0) (.inr (Nat.lt_of_not_le hgroup))]
  by_cases hattrs : b.attrs.toNat / 8 % 8 = 0 ∧ 1 ≤ b.attrs.toNat % 8 ∧ b.attrs.toNat % 8 ≤ 4
  case neg => simp [definitionOf, attributesOf_of_not_mem hattrs]
  have hcells : ¬ CellsInRange b.cellCount b.cells := fun hin =>
    h ⟨hsource, hsequence, hgroup, hattrs.1, hattrs.2.1, hattrs.2.2, hin⟩
  simp [definitionOf, cellsOf_of_not_mem hcells]

/-- A definition that an accepted block writes lies in the ranges of R2 and R3. -/
theorem definitionWritten_inRange {b : DefBlock} (hnumber : b.number.toNat ≤ 63) (hw : b.WellFormed) (h : BlockInRange b) :
    (definitionWritten b).InRange := by
  obtain ⟨hsource, -, hgroup, -, hlow, hhigh, hone, hfour, hcells, hnodup⟩ := h
  have hlength : b.cells.length = b.cellCount.toNat := hw.trans (if_pos ⟨hone, hfour⟩)
  obtain ⟨-, -, hcells', hnodup'⟩ := (cellsInRange_iff b.cellCount b.cells).mpr ⟨hone, hfour, hcells, hnodup⟩
  refine ⟨Nat.lt_succ_of_le hnumber, ?line, hgroup, hlow, hhigh, ?_, ?_, hcells', hnodup'⟩
  case line =>
    intro n hn
    by_cases hhost : b.source = 0x80
    · have hsrc : (definitionWritten b).source = .host := if_pos hhost
      rw [hsrc] at hn
      cases hn
    · have hsrc : (definitionWritten b).source = .line b.source.toNat := if_neg hhost
      rw [hsrc] at hn
      cases hn
      exact Nat.lt_succ_of_le (hsource.resolve_right hhost)
  all_goals simpa [definitionWritten, hlength]

end Sys2Proof.Machine
end

section
/-! SUPPORT. What a host command can do to the state besides its answer: one case for each kind of accepted command. -/

namespace Sys2Proof.Machine

/-- The settings of an accepted CONFIGURE-INPUT lie in the ranges of R76. -/
def LineSettings.InRange (c : LineSettings) : Prop :=
  1 ≤ c.filter ∧ c.filter ≤ 15 ∧ (c.chatterLimit = 0 ∨ (2 ≤ c.chatterLimit ∧ c.chatterLimit ≤ 15))

/-- The effects that only READY admits, each with what its checks have established (R164). `marking` says that the command may
mark entries in flight, which READ-CHANGES alone does (R170, R172). -/
inductive Admitted (marking : Prop) (s : State) : State → Prop
  | marks {c : Nat} (hmarking : marking) (h : c ≤ 16) : Admitted marking s (s.withChanges (markInFlight c s.changes))
  | notify (n : Notify) : Admitted marking s (s.withNotify n)
  | restart : Admitted marking s (restartEvent s)
  | define {d : Definition} (hd : d.InRange) (hslot : pointAt s d.number = none) : Admitted marking s (definePointEvent d s)
  | modify {p : Point} {d : Definition} (hslot : pointAt s d.number = some p) (hd : d.InRange)
      (hrest : restFieldsDiffer p.defn d = true → p.state = .normal ∧ firstOut s.groups p = false)
      (hshelvable : p.state = .shelved → d.shelvable = true) :
      Admitted marking s (pointEvent (onlyPoint d.number (modifyRecord d (sourceCondition s d.source))) s)
  | retire {p : Point} (hp : p ∈ s.points) (hstate : p.state = .normal ∨ p.state = .shelved) : Admitted marking s (retire p s)
  | assert {p : Point} (v : Condition) (hslot : pointAt s p.number = some p) (hsource : p.defn.source = .host) :
      Admitted marking s (pointEvent (onlyPoint p.number (takeAgeing v 0 false)) s)
  | refresh : Admitted marking s (pointEvent refresh s)
  | lease {n : Nat} (h : n ≤ 255) :
      Admitted marking s (pointEvent refresh (s.withTime { s.time with leaseInterval := n, leaseCount := 0 }))
  | acknowledge (sc : Scope) : Admitted marking s (acknowledgeEvent sc s)
  | silence (sc : Scope) : Admitted marking s (silenceEvent sc s)
  | clear (sc : Scope) : Admitted marking s (clearEvent sc s)
  | shelve {p : Point} {m : Nat} (hp : p ∈ s.points) (hlow : 1 ≤ m) (hhigh : m ≤ Config.maxMinutes) (hstate : p.state ≠ .shelved)
      (hroom : s.shelf.length < Config.shelfEntries) : Admitted marking s (shelveEvent p m s)
  | reshelve {p : Point} {m : Nat} (hp : p ∈ s.points) (hlow : 1 ≤ m) (hhigh : m ≤ Config.maxMinutes)
      (hstate : p.state = .shelved) : Admitted marking s (reshelveEvent p.number m s)
  | unshelve {p : Point} (hp : p ∈ s.points) (hstate : p.state = .shelved) : Admitted marking s (unshelveEvent p.number s)
  | configureGroup {g : Nat} (e : Bool) (r : Release) : Admitted marking s (configureGroupEvent g e r s)
  | releaseGroup {g : Nat} : Admitted marking s (releaseEvent g s)
  | configureInput {n : Nat} {c : LineSettings} (hc : c.InRange) :
      Admitted marking s (reconfigureLine n c (restHorns (conditionBatch s)))
  | keys (a si c t : Bool) : Admitted marking s (s.withKeys (s.keys.withEnables a si c t))
  | display (p : Bool) {c : Nat} (q : Bool) (hlow : 1 ≤ c) (hhigh : c ≤ 4) :
      Admitted marking s (s.withDisplay (s.display.configure p c q))
  | override (t : Bool) : Admitted marking s (s.withDisplay { s.display with commandTest := t })
  | horn (h : HornId) (e : Bool) {n : Nat} (r : Bool) (hlow : 1 ≤ n) (hhigh : n ≤ 63) :
      Admitted marking s (s.withOutput { s.output.updateHorn h (fun x => x.configure e n) with retrigger := r })

/-- What a host command can do to the state: nothing, change the sticky flags, or an effect that only READY admits. -/
inductive Performed (marking : Prop) (s : State) : State → Prop
  | nothing : Performed marking s s
  | flags (f : StickyFlags) : Performed marking s (s.withFlags f)
  | admitted {t : State} (hready : isReady s = true) (h : Admitted marking s t) : Performed marking s t

section Performed
variable {marking : Prop}

theorem mem_numberIn {low high n : Nat} {b : Byte} (h : numberIn low high b = some n) : low ≤ n ∧ n ≤ high ∧ b.toNat = n := by
  unfold numberIn at h
  split at h
  · next hin => cases h; exact ⟨hin.1, hin.2, rfl⟩
  · cases h

theorem settingsOf_inRange {e nl f l : Byte} {c : LineSettings} (h : settingsOf e nl f l = some c) : c.InRange := by
  unfold settingsOf at h
  cases he : twoValued e with
  | none => simp [he] at h
  | some enable =>
  cases hnl : levelOf nl with
  | none => simp [he, hnl] at h
  | some normalLevel =>
  cases hf : numberIn 1 15 f with
  | none => simp [he, hnl, hf] at h
  | some filter =>
  cases hl : chatterLimitOf l with
  | none => simp [he, hnl, hf, hl] at h
  | some limit =>
    simp only [he, hnl, hf, hl] at h
    cases h
    obtain ⟨hlow, hhigh, -⟩ := mem_numberIn hf
    refine ⟨hlow, hhigh, ?_⟩
    unfold chatterLimitOf at hl
    split at hl
    · exact .inl (Option.some.inj hl).symm
    · obtain ⟨hlow, hhigh, -⟩ := mem_numberIn hl
      exact .inr ⟨hlow, hhigh⟩

theorem performed_readChanges {s : State} (hmarking : marking) (hready : isReady s = true) (m : Byte) :
    Performed marking s (readChanges m s).state := by
  unfold readChanges
  cases hm : numberIn 1 Config.maxRead m with
  | none => exact .nothing
  | some n => exact .admitted hready (.marks hmarking ((Nat.min_le_left ..).trans (mem_numberIn hm).2.1))

theorem performed_configureNotify {s : State} (hready : isReady s = true) (c e : Byte) :
    Performed marking s (configureNotify c e s).state := by
  unfold configureNotify
  split
  · exact .admitted hready (.notify _)
  · exact .nothing

theorem performed_definePoint {s : State} (hready : isReady s = true) {b : DefBlock} (hw : b.WellFormed) :
    Performed marking s (definePoint b s).state := by
  by_cases hnumber : b.number.toNat ≤ 63
  case neg =>
    rw [definePoint, pointOf_of_lt (Nat.lt_of_not_le hnumber)]
    exact .nothing
  cases hslot : pointAt s b.number.toNat with
  | some p =>
    simp only [definePoint, pointOf_of_le hnumber, hslot]
    exact .nothing
  | none =>
    by_cases hrange : BlockInRange b
    · simp only [definePoint, pointOf_of_le hnumber, hslot, definitionOf_inRange hrange]
      exact .admitted hready (.define (definitionWritten_inRange hnumber hw hrange) hslot)
    · simp only [definePoint, pointOf_of_le hnumber, hslot, definitionOf_outOfRange hrange]
      exact .nothing

theorem performed_modifyPoint {s : State} (hready : isReady s = true) {b : DefBlock} (hw : b.WellFormed) :
    Performed marking s (modifyPoint b s).state := by
  by_cases hnumber : b.number.toNat ≤ 63
  case neg =>
    rw [modifyPoint, pointOf_of_lt (Nat.lt_of_not_le hnumber)]
    exact .nothing
  cases hslot : pointAt s b.number.toNat with
  | none =>
    simp only [modifyPoint, pointOf_of_le hnumber, hslot]
    exact .nothing
  | some p =>
    by_cases hrange : BlockInRange b
    case neg =>
      simp only [modifyPoint, pointOf_of_le hnumber, hslot, definitionOf_outOfRange hrange]
      exact .nothing
    simp only [modifyPoint, pointOf_of_le hnumber, hslot, definitionOf_inRange hrange]
    split
    · exact .nothing
    next hrest =>
      split
      · exact .nothing
      next hshelvable =>
        refine .admitted hready (.modify hslot (definitionWritten_inRange hnumber hw hrange) ?_ ?_)
        · intro hdiff
          simpa [hdiff] using hrest
        · intro hstate
          simpa [hstate] using hshelvable

theorem performed_retirePoint {s : State} (hready : isReady s = true) (b : Byte) : Performed marking s (retirePoint b s).state := by
  unfold retirePoint
  cases pointOf b with
  | none => exact .nothing
  | some n =>
    dsimp only
    cases hslot : pointAt s n with
    | none => exact .nothing
    | some p =>
      dsimp only
      split
      · next hstate => exact .admitted hready (.retire (mem_of_pointAt hslot).1 hstate)
      · exact .nothing

theorem performed_readPoint (b : Byte) (s : State) : Performed marking s (readPoint b s).state := by
  unfold readPoint
  cases pointOf b with
  | none => exact .nothing
  | some n =>
    dsimp only
    cases pointAt s n <;> exact .nothing

theorem performed_assertPoint {s : State} (hready : isReady s = true) (b v : Byte) :
    Performed marking s (assertPoint b v s).state := by
  unfold assertPoint
  split
  · next n v hn hv =>
    cases hslot : pointAt s n with
    | none => exact .nothing
    | some p =>
      dsimp only
      split
      · next hsource =>
        obtain rfl := (mem_of_pointAt hslot).2
        exact .admitted hready (.assert v hslot hsource)
      · exact .nothing
  · exact .nothing

/-- The state after a command with a scope is the one before it, or that of its event (R35). -/
theorem performed_withScope {s : State} (hready : isReady s = true) (b : Byte) (count : Scope → State → Nat)
    {event : Scope → State → State} (h : ∀ sc, Admitted marking s (event sc s)) :
    Performed marking s (withScope b count event s).state := by
  unfold withScope
  split
  · exact .nothing
  · split
    · exact .nothing
    · exact .admitted hready (h _)
  · exact .admitted hready (h _)

theorem performed_shelvePoint {s : State} (hready : isReady s = true) (b m : Byte) :
    Performed marking s (shelvePoint b m s).state := by
  unfold shelvePoint
  split
  · next n m hn hm =>
    obtain ⟨hlow, hhigh, -⟩ := mem_numberIn hm
    cases hslot : pointAt s n with
    | none => exact .nothing
    | some p =>
      obtain ⟨hp, rfl⟩ := mem_of_pointAt hslot
      dsimp only
      split
      · exact .nothing
      split
      · next hstate => exact .admitted hready (.reshelve hp hlow hhigh hstate)
      next hstate =>
      split
      · exact .nothing
      · next hroom => exact .admitted hready (.shelve hp hlow hhigh hstate (Nat.lt_of_not_le hroom))
  · exact .nothing

theorem performed_unshelvePoint {s : State} (hready : isReady s = true) (b : Byte) :
    Performed marking s (unshelvePoint b s).state := by
  unfold unshelvePoint
  cases pointOf b with
  | none => exact .nothing
  | some n =>
    dsimp only
    cases hslot : pointAt s n with
    | none => exact .nothing
    | some p =>
      obtain ⟨hp, rfl⟩ := mem_of_pointAt hslot
      dsimp only
      split
      · next hstate => exact .admitted hready (.unshelve hp hstate)
      · exact .nothing

theorem performed_configureGroup {s : State} (hready : isReady s = true) (g e r : Byte) :
    Performed marking s (configureGroup g e r s).state := by
  unfold configureGroup
  split
  · exact .admitted hready (.configureGroup ..)
  · exact .nothing

theorem performed_releaseGroup {s : State} (hready : isReady s = true) (g : Byte) :
    Performed marking s (releaseGroup g s).state := by
  unfold releaseGroup
  cases groupOf g with
  | none => exact .nothing
  | some n => exact .admitted hready .releaseGroup

theorem performed_readGroup (g : Byte) (s : State) : Performed marking s (readGroup g s).state := by
  unfold readGroup
  cases groupOf g <;> exact .nothing

theorem performed_configureInput {s : State} (hready : isReady s = true) (l e nl f c : Byte) :
    Performed marking s (configureInput l e nl f c s).state := by
  unfold configureInput
  split
  · next hc => exact .admitted hready (.configureInput (settingsOf_inRange hc))
  · exact .nothing

theorem performed_configureKeys {s : State} (hready : isReady s = true) (a si c t : Byte) :
    Performed marking s (configureKeys a si c t s).state := by
  unfold configureKeys
  split
  · exact .admitted hready (.keys ..)
  · exact .nothing

theorem performed_configureDisplay {s : State} (hready : isReady s = true) (p c q : Byte) :
    Performed marking s (configureDisplay p c q s).state := by
  unfold configureDisplay
  split
  · next hc _ =>
    obtain ⟨hlow, hhigh, -⟩ := mem_numberIn hc
    exact .admitted hready (.display _ _ hlow hhigh)
  · exact .nothing

theorem performed_setOverride {s : State} (hready : isReady s = true) (t : Byte) : Performed marking s (setOverride t s).state := by
  unfold setOverride
  cases twoValued t with
  | none => exact .nothing
  | some v => exact .admitted hready (.override v)

theorem performed_readCells (f c : Byte) (s : State) : Performed marking s (readCells f c s).state := by
  unfold readCells
  split
  · exact .nothing
  · split <;> exact .nothing

theorem performed_configureHorn {s : State} (hready : isReady s = true) (h e n r : Byte) :
    Performed marking s (configureHorn h e n r s).state := by
  unfold configureHorn
  split
  · next hn _ =>
    obtain ⟨hlow, hhigh, -⟩ := mem_numberIn hn
    exact .admitted hready (.horn _ _ _ hlow hhigh)
  · exact .nothing

/-- A command that only READY admits changes nothing while SETTLING (R164). -/
theorem performed_unlessBusy {s : State} {effect : State → Answer}
    (h : isReady s = true → Performed marking s (effect s).state) :
    Performed marking s (unlessBusy effect s).state := by
  cases hready : isReady s with
  | true => rw [unlessBusy_ready hready]; exact h hready
  | false => rw [unlessBusy_settling hready]; exact .nothing

end Performed

/-- What every host command can do, its checks included. -/
theorem commandEffect_performed {i : Instr} (hw : i.WellFormed) (s : State) :
    Performed (∃ m, i = .readChanges m) s (commandEffect i s).state := by
  cases i with
  | readStatus => exact .flags _
  | readChanges m => exact performed_unlessBusy fun hready => performed_readChanges ⟨m, rfl⟩ hready m
  | configureNotify c e => exact performed_unlessBusy fun hready => performed_configureNotify hready c e
  | restart => exact performed_unlessBusy fun hready => .admitted hready .restart
  | definePoint b => exact performed_unlessBusy fun hready => performed_definePoint hready (of_decide_eq_true hw)
  | modifyPoint b => exact performed_unlessBusy fun hready => performed_modifyPoint hready (of_decide_eq_true hw)
  | retirePoint p => exact performed_unlessBusy fun hready => performed_retirePoint hready p
  | readPoint p => exact performed_unlessBusy fun _ => performed_readPoint p s
  | assert p v => exact performed_unlessBusy fun hready => performed_assertPoint hready p v
  | refreshAll => exact performed_unlessBusy fun hready => .admitted hready .refresh
  | configureLease i =>
    exact performed_unlessBusy fun hready => .admitted hready (.lease (Nat.le_of_lt_succ i.isLt))
  | acknowledge sc => exact performed_unlessBusy fun hready => performed_withScope hready sc _ .acknowledge
  | silence sc => exact performed_unlessBusy fun hready => performed_withScope hready sc _ .silence
  | clear sc => exact performed_unlessBusy fun hready => performed_withScope hready sc _ .clear
  | shelve p m => exact performed_unlessBusy fun hready => performed_shelvePoint hready p m
  | unshelve p => exact performed_unlessBusy fun hready => performed_unshelvePoint hready p
  | configureGroup g e r => exact performed_unlessBusy fun hready => performed_configureGroup hready g e r
  | releaseGroup g => exact performed_unlessBusy fun hready => performed_releaseGroup hready g
  | readGroup g => exact performed_unlessBusy fun _ => performed_readGroup g s
  | configureInput l e nl f c => exact performed_unlessBusy fun hready => performed_configureInput hready l e nl f c
  | configureKeys a si c t => exact performed_unlessBusy fun hready => performed_configureKeys hready a si c t
  | configureDisplay p c q => exact performed_unlessBusy fun hready => performed_configureDisplay hready p c q
  | setOverride t => exact performed_unlessBusy fun hready => performed_setOverride hready t
  | readCells f c => exact performed_unlessBusy fun _ => performed_readCells f c s
  | configureHorn h e n r => exact performed_unlessBusy fun hready => performed_configureHorn hready h e n r
  | unknownCommand c => exact .flags _
  | echo v => exact performed_unlessBusy (effect := fun s => .read s [v, ~~~v]) fun _ => .nothing
  | readDefined => exact performed_unlessBusy (effect := fun s => .read s (occupancyBytes s)) fun _ => .nothing
  | readShelf => exact performed_unlessBusy (effect := fun s => .read s (shelfBytes s)) fun _ => .nothing
  | readInputs => exact performed_unlessBusy (effect := fun s => .read s (inputBytes s)) fun _ => .nothing
  | readOutputs => exact performed_unlessBusy (effect := fun s => .read s (outputBytes s)) fun _ => .nothing
  | _ => exact .nothing

end Sys2Proof.Machine
end

section
/-! SUPPORT. The effect of a host command, too, reads nothing of what stands around the units. -/

namespace Sys2Proof.Machine

/-- An answer whose state has other surroundings. -/
def Answer.within (a : Answer) (e : Surroundings) : Answer :=
  { status := a.status, results := a.results, state := a.state.within e }

/-- An effect that the surroundings play no part in. -/
def InnerEffect (effect : State → Answer) : Prop := ∀ s e, effect (s.within e) = (effect s).within e

@[simp] theorem pointAt_within (s : State) (e : Surroundings) (n : Nat) : pointAt (s.within e) n = pointAt s n := rfl
@[simp] theorem isReady_within (s : State) (e : Surroundings) : isReady (s.within e) = isReady s := rfl
@[simp] theorem sounding_within (s : State) (e : Surroundings) (h : HornId) : sounding (s.within e) h = sounding s h := rfl

theorem innerEffect_refuse (st : Status) : InnerEffect fun s => .refuse s st := fun _ _ => rfl

theorem innerEffect_ok {f : State → State} (h : Inner f) : InnerEffect fun s => .ok (f s) :=
  fun s e => congrArg Answer.ok (h s e)

theorem InnerEffect.ite {c : State → Prop} [∀ s, Decidable (c s)] {f g : State → Answer}
    (hc : ∀ s e, c (State.within s e) ↔ c s) (hf : InnerEffect f) (hg : InnerEffect g) :
    InnerEffect fun s => if c s then f s else g s := by
  intro s e
  by_cases h : c s
  · simp only [if_pos h, if_pos ((hc s e).mpr h), hf s e]
  · simp only [if_neg h, if_neg (mt (hc s e).mp h), hg s e]

theorem InnerEffect.unlessBusy {effect : State → Answer} (h : InnerEffect effect) : InnerEffect (unlessBusy effect) := by
  intro s e
  cases hready : isReady s with
  | true => rw [unlessBusy_ready hready, unlessBusy_ready (s := s.within e) hready, h]
  | false => rw [unlessBusy_settling hready, unlessBusy_settling (s := s.within e) hready]; rfl

theorem innerEffect_readChanges (m : Byte) : InnerEffect (readChanges m) := by
  intro s e
  unfold readChanges
  cases numberIn 1 Config.maxRead m <;> rfl

theorem innerEffect_configureNotify (c e : Byte) : InnerEffect (configureNotify c e) := by
  intro s _
  unfold configureNotify
  cases twoValued c <;> cases twoValued e <;> rfl

theorem innerEffect_definePoint (b : DefBlock) : InnerEffect (definePoint b) := by
  intro s e
  unfold definePoint
  cases pointOf b.number with
  | none => rfl
  | some n =>
    cases hslot : pointAt s n with
    | some p =>
      simp only [pointAt_within, hslot, Option.isSome_some, if_true]
      rfl
    | none =>
      simp only [pointAt_within, hslot, Option.isSome_none, Bool.false_eq_true, if_false]
      cases definitionOf n b <;> rfl

theorem innerEffect_modifyPoint (b : DefBlock) : InnerEffect (modifyPoint b) := by
  intro s e
  unfold modifyPoint
  cases pointOf b.number with
  | none => rfl
  | some n =>
    simp only [pointAt_within]
    cases pointAt s n with
    | none => rfl
    | some p =>
      cases definitionOf n b with
      | none => rfl
      | some d =>
        exact InnerEffect.ite (c := fun s => (restFieldsDiffer p.defn d && (p.state != .normal || firstOut s.groups p)) = true)
          (fun _ _ => Iff.rfl) (innerEffect_refuse _)
          (InnerEffect.ite (c := fun _ => (!d.shelvable && p.state == .shelved) = true) (fun _ _ => Iff.rfl)
            (innerEffect_refuse _)
            (innerEffect_ok (f := fun s => pointEvent (onlyPoint n (modifyRecord d (sourceCondition s d.source))) s)
              fun _ _ => rfl)) s e

theorem innerEffect_retirePoint (b : Byte) : InnerEffect (retirePoint b) := by
  intro s e
  unfold retirePoint
  cases pointOf b with
  | none => rfl
  | some n =>
    simp only [pointAt_within]
    cases pointAt s n with
    | none => rfl
    | some p => dsimp only; split <;> rfl

theorem innerEffect_readPoint (b : Byte) : InnerEffect (readPoint b) := by
  intro s e
  unfold readPoint
  cases pointOf b with
  | none => rfl
  | some n =>
    simp only [pointAt_within]
    cases pointAt s n <;> rfl

theorem innerEffect_assertPoint (b v : Byte) : InnerEffect (assertPoint b v) := by
  intro s e
  unfold assertPoint
  cases pointOf b with
  | none => rfl
  | some n =>
    cases conditionOf v with
    | none => rfl
    | some v =>
      simp only [pointAt_within]
      cases pointAt s n with
      | none => rfl
      | some p => dsimp only; split <;> rfl

theorem innerEffect_withScope (b : Byte) {count : Scope → State → Nat} {event : Scope → State → State}
    (hcount : ∀ sc, Unseen (count sc)) (hevent : ∀ sc, Inner (event sc)) : InnerEffect (withScope b count event) := by
  intro s e
  unfold withScope
  cases scopeOf b with
  | none => rfl
  | some sc =>
    cases sc with
    | point n =>
      cases hslot : pointAt s n with
      | none =>
        simp only [pointAt_within, hslot, Option.isNone_none, if_true]
        rfl
      | some p =>
        simp only [pointAt_within, hslot, Option.isNone_some, Bool.false_eq_true, if_false, hcount (.point n) s e,
          hevent (.point n) s e]
        rfl
    | group g => simp only [hcount (.group g) s e, hevent (.group g) s e]; rfl
    | all => simp only [hcount .all s e, hevent .all s e]; rfl

theorem innerEffect_shelvePoint (b m : Byte) : InnerEffect (shelvePoint b m) := by
  intro s e
  unfold shelvePoint
  cases pointOf b with
  | none => rfl
  | some n =>
    cases numberIn 1 Config.maxMinutes m with
    | none => rfl
    | some m =>
      simp only [pointAt_within]
      cases pointAt s n with
      | none => rfl
      | some p =>
        dsimp only
        split
        · rfl
        split
        · rfl
        exact InnerEffect.ite (c := fun s => Config.shelfEntries ≤ s.shelf.length) (fun _ _ => Iff.rfl) (innerEffect_refuse _)
          (innerEffect_ok (f := shelveEvent p m) fun _ _ => rfl) s e

theorem innerEffect_unshelvePoint (b : Byte) : InnerEffect (unshelvePoint b) := by
  intro s e
  unfold unshelvePoint
  cases pointOf b with
  | none => rfl
  | some n =>
    simp only [pointAt_within]
    cases pointAt s n with
    | none => rfl
    | some p => dsimp only; split <;> rfl

theorem innerEffect_configureGroup (g e r : Byte) : InnerEffect (configureGroup g e r) := by
  intro s _
  unfold configureGroup
  cases groupOf g <;> cases twoValued e <;> cases releaseOf r <;> rfl

theorem innerEffect_releaseGroup (g : Byte) : InnerEffect (releaseGroup g) := by
  intro s _
  unfold releaseGroup
  cases groupOf g <;> rfl

theorem innerEffect_readGroup (g : Byte) : InnerEffect (readGroup g) := by
  intro s _
  unfold readGroup
  cases groupOf g <;> rfl

theorem inner_reconfigureLine (n : Nat) (c : LineSettings) : Inner (reconfigureLine n c) :=
  Inner.ite (fun _ _ => Iff.rfl) (fun _ _ => rfl) fun _ _ => rfl

theorem innerEffect_configureInput (l e nl f c : Byte) : InnerEffect (configureInput l e nl f c) := by
  intro s e'
  unfold configureInput
  cases numberIn 0 23 l with
  | none => rfl
  | some n =>
    cases settingsOf e nl f c with
    | none => rfl
    | some c => exact congrArg Answer.ok (((inner_reconfigureLine n c).comp (inner_restHorns.comp inner_conditionBatch)) s e')

theorem innerEffect_configureKeys (a si c t : Byte) : InnerEffect (configureKeys a si c t) := by
  intro s e
  unfold configureKeys
  cases twoValued a <;> cases twoValued si <;> cases twoValued c <;> cases twoValued t <;> rfl

theorem innerEffect_configureDisplay (p c q : Byte) : InnerEffect (configureDisplay p c q) := by
  intro s e
  unfold configureDisplay
  cases twoValued p <;> cases numberIn 1 4 c <;> cases twoValued q <;> rfl

theorem innerEffect_setOverride (t : Byte) : InnerEffect (setOverride t) := by
  intro s e
  unfold setOverride
  cases twoValued t <;> rfl

theorem innerEffect_readCells (f c : Byte) : InnerEffect (readCells f c) := by
  intro s e
  unfold readCells
  split
  · rfl
  · split <;> rfl

theorem innerEffect_configureHorn (h e n r : Byte) : InnerEffect (configureHorn h e n r) := by
  intro s _
  unfold configureHorn
  cases hornOf h <;> cases twoValued e <;> cases numberIn 1 63 n <;> cases twoValued r <;> rfl

/-- Whatever stands around the units, a host command does the same. -/
theorem innerEffect_commandEffect (i : Instr) : InnerEffect (commandEffect i) := by
  cases i with
  | readChanges m => exact (innerEffect_readChanges m).unlessBusy
  | configureNotify c e => exact (innerEffect_configureNotify c e).unlessBusy
  | definePoint b => exact (innerEffect_definePoint b).unlessBusy
  | modifyPoint b => exact (innerEffect_modifyPoint b).unlessBusy
  | retirePoint p => exact (innerEffect_retirePoint p).unlessBusy
  | readPoint p => exact (innerEffect_readPoint p).unlessBusy
  | assert p v => exact (innerEffect_assertPoint p v).unlessBusy
  | acknowledge sc => exact (innerEffect_withScope sc (fun _ _ _ => rfl) fun _ _ _ => rfl).unlessBusy
  | silence sc => exact (innerEffect_withScope sc (fun _ _ _ => rfl) fun _ _ _ => rfl).unlessBusy
  | clear sc => exact (innerEffect_withScope sc (fun _ _ _ => rfl) fun _ _ _ => rfl).unlessBusy
  | shelve p m => exact (innerEffect_shelvePoint p m).unlessBusy
  | unshelve p => exact (innerEffect_unshelvePoint p).unlessBusy
  | configureGroup g e r => exact (innerEffect_configureGroup g e r).unlessBusy
  | releaseGroup g => exact (innerEffect_releaseGroup g).unlessBusy
  | readGroup g => exact (innerEffect_readGroup g).unlessBusy
  | configureInput l e nl f c => exact (innerEffect_configureInput l e nl f c).unlessBusy
  | configureKeys a si c t => exact (innerEffect_configureKeys a si c t).unlessBusy
  | configureDisplay p c q => exact (innerEffect_configureDisplay p c q).unlessBusy
  | setOverride t => exact (innerEffect_setOverride t).unlessBusy
  | readCells f c => exact (innerEffect_readCells f c).unlessBusy
  | configureHorn h e n r => exact (innerEffect_configureHorn h e n r).unlessBusy
  | echo | restart | readDefined | refreshAll | configureLease | readShelf | readInputs | readOutputs =>
    exact InnerEffect.unlessBusy fun _ _ => rfl
  | _ => exact fun _ _ => rfl

/-! ### The taking -/

theorem taken_eq (bytes : List Byte) (effect : State → Answer) (s : State) :
    taken bytes effect s =
      (restHorns (effect s).state).withPort (replied bytes ((effect s).status.code :: (effect s).results)) := rfl

/-- What a taking leaves of the pins and the queue, and the answer that it puts in the port (R160). -/
theorem surroundings_taken {effect : State → Answer} (h : InnerEffect effect) (bytes : List Byte) (s : State) :
    (taken bytes effect s).surroundings =
      { s.surroundings with port := replied bytes ((effect s).status.code :: (effect s).results) } := by
  have hself : effect s = (effect s).within s.surroundings := h s s.surroundings
  rw [taken_eq, hself]
  rfl

end Sys2Proof.Machine
end

section
/-! SUPPORT. The reading of the bytes shifted in: what spells a command, and how long it is (R159, R163, R181, R182). -/

namespace Sys2Proof.Machine

/-- Operands that spell a fixed-length command are those by which the host sends it: row by row of the command table, with the
operands that its row has (R181). -/
theorem hostBytes_of_fixedCommand {code : Byte} {ops : List Byte} {n : Nat} {i : Instr} (harity : arity code = some (.fixed n))
    (h : fixedCommand code.toNat ops = some i) : i.WellFormed ∧ hostBytes i = some (code :: ops) := by
  have hcode : BitVec.ofNat 8 code.toNat = code := by rw [BitVec.ofNat_toNat, BitVec.setWidth_eq]
  unfold arity at harity
  split at harity <;> cases harity
  all_goals
    next hrow =>
      rw [hrow] at h hcode
      subst hcode
      rcases ops with _ | ⟨a, _ | ⟨b, _ | ⟨c, _ | ⟨d, _ | ⟨e, _ | ⟨f, ops⟩⟩⟩⟩⟩⟩ <;>
        cases h
      exact ⟨rfl, rfl⟩

/-- Operands that spell a definition block are its bytes (R182). -/
theorem blockBytes_of_blockOf {ops : List Byte} {b : DefBlock} (h : blockOf ops = some b) :
    b.WellFormed ∧ blockBytes b = ops := by
  unfold blockOf at h
  split at h
  · split at h
    · next hcells => cases h; exact ⟨hcells, rfl⟩
    · cases h
  · cases h

/-- Two codes carry a definition block (R181). -/
theorem code_of_arity_block {code : Byte} (h : arity code = some .block) : code = 0x10 ∨ code = 0x11 := by
  unfold arity at h
  split at h
  case h_7 hcode => exact .inl (BitVec.eq_of_toNat_eq hcode)
  case h_8 hcode => exact .inr (BitVec.eq_of_toNat_eq hcode)
  all_goals cases h

/-- What the bytes of a code and its operands take, when they take a command (R159, R163). -/
theorem decodeFrame_cases {code : Byte} {ops : List Byte} {i : Instr} (h : decodeFrame (code :: ops) = .command i) :
    (arity code = none ∧ i = .unknownCommand code) ∨
    (∃ n, arity code = some (.fixed n) ∧ fixedCommand code.toNat ops = some i) ∨
    (arity code = some .block ∧ ∃ b, blockOf ops = some b ∧ i = if code = 0x10 then .definePoint b else .modifyPoint b) := by
  unfold decodeFrame at h
  cases harity : arity code with
  | none =>
    simp only [harity, Frame.command.injEq] at h
    exact .inl ⟨rfl, h.symm⟩
  | some a =>
    cases a with
    | fixed n =>
      cases hfixed : fixedCommand code.toNat ops with
      | none => simp [harity, hfixed] at h
      | some j =>
        simp only [harity, hfixed, Frame.command.injEq] at h
        exact .inr (.inl ⟨n, rfl, congrArg some h⟩)
    | block =>
      cases hblock : blockOf ops with
      | none => simp [harity, hblock] at h
      | some b =>
        simp only [harity, hblock, Frame.command.injEq] at h
        exact .inr (.inr ⟨rfl, b, rfl, h.symm⟩)

/-- Bytes that take a known command are the bytes of that command, and those that take an unknown code begin with it. -/
theorem hostBytes_of_decodeFrame {code : Byte} {ops : List Byte} {i : Instr} (h : decodeFrame (code :: ops) = .command i) :
    i.WellFormed ∧ hostBytes i = some (code :: if arity code = none then [] else ops) := by
  rcases decodeFrame_cases h with ⟨harity, rfl⟩ | ⟨n, harity, hfixed⟩ | ⟨harity, b, hblock, rfl⟩
  · rw [if_pos harity]
    exact ⟨decide_eq_true harity, rfl⟩
  · have hknown : arity code ≠ none := by rw [harity]; exact nofun
    rw [if_neg hknown]
    exact hostBytes_of_fixedCommand harity hfixed
  · obtain ⟨hw, hbytes⟩ := blockBytes_of_blockOf hblock
    have hknown : arity code ≠ none := by rw [harity]; exact nofun
    rw [if_neg hknown, ← hbytes]
    obtain rfl | rfl := code_of_arity_block harity
    · exact ⟨decide_eq_true hw, rfl⟩
    · exact ⟨decide_eq_true hw, rfl⟩

/-- The bytes shifted in take only well-formed host commands. -/
theorem decodeFrame_wellFormed {bytes : List Byte} {i : Instr} (h : decodeFrame bytes = .command i) :
    i.WellFormed ∧ ∃ bs, hostBytes i = some bs := by
  cases bytes with
  | nil => cases h
  | cons code ops =>
    obtain ⟨hw, hbytes⟩ := hostBytes_of_decodeFrame h
    exact ⟨hw, _, hbytes⟩

/-! ### Lengths -/

/-- A fixed-length command has the operands that its code asks for (R159). -/
theorem length_of_fixed {i : Instr} {code : Byte} {ops : List Byte} {n : Nat} (hw : i.WellFormed)
    (h : hostBytes i = some (code :: ops)) (harity : arity code = some (.fixed n)) : ops.length = n := by
  cases i with
  | unknownCommand c =>
    cases h
    have hunknown : arity code = none := of_decide_eq_true hw
    rw [hunknown] at harity
    cases harity
  | _ => cases h <;> cases harity <;> rfl

/-- A definition block is its six bytes and the cells that its sixth asks for (R159). -/
theorem length_of_blockOf {ops : List Byte} {b : DefBlock} (h : blockOf ops = some b) :
    ops.length = 6 + cellBytes (ops.getD 5 0) := by
  obtain ⟨hw, rfl⟩ := blockBytes_of_blockOf h
  have hcells : b.cells.length = cellBytes b.cellCount := hw
  simp only [blockBytes, List.length_cons, hcells, List.getD_cons_succ, List.getD_cons_zero]
  omega

/-- Of two runs of operands that take a known command after the same code, where one begins the other, neither is longer: the
command is taken at its last operand position and at no other (R159). -/
theorem length_eq_of_decodeFrame {code : Byte} {ops : List Byte} {n : Nat} {i j : Instr} (hknown : arity code ≠ none)
    (hi : decodeFrame (code :: ops) = .command i) (hj : decodeFrame (code :: ops.take n) = .command j) : ops.length ≤ n := by
  obtain ⟨hwi, hbi⟩ := hostBytes_of_decodeFrame hi
  obtain ⟨hwj, hbj⟩ := hostBytes_of_decodeFrame hj
  rw [if_neg hknown] at hbi hbj
  have hlength : (ops.take n).length = ops.length := by
    rcases decodeFrame_cases hi with ⟨harity, -⟩ | ⟨m, harity, -⟩ | ⟨harity, b, hb, -⟩
    · exact absurd harity hknown
    · exact (length_of_fixed hwj hbj harity).trans (length_of_fixed hwi hbi harity).symm
    · rcases decodeFrame_cases hj with ⟨harity', -⟩ | ⟨m, harity', -⟩ | ⟨-, b', hb', -⟩
      · exact absurd harity' hknown
      · rw [harity] at harity'
        cases harity'
      · have hlong := length_of_blockOf hb
        have hshort := length_of_blockOf hb'
        have hcount : (ops.take n).getD 5 0 = ops.getD 5 0 := by
          rw [List.length_take] at hshort
          rw [List.getD_eq_getElem?_getD, List.getD_eq_getElem?_getD, List.getElem?_take, if_pos (by omega)]
        rw [hshort, hlong, hcount]
  rw [List.length_take] at hlength
  omega

end Sys2Proof.Machine
end

section
/-! The statement about the reading of bytes. -/

namespace Sys2Proof.Proofs
open Sys2Proof.Machine

/-- Settles O14: what the bytes take is the command that has them, and a shorter run of them takes none, since a known command
has the length that its code asks for. -/
theorem framesAndBytesAgree : Obligations.FramesAndBytesAgree := by
  intro i bytes
  constructor
  · intro hdecode hlast
    cases bytes with
    | nil => cases hdecode
    | cons code ops =>
      obtain ⟨hw, hbytes⟩ := hostBytes_of_decodeFrame hdecode
      refine ⟨hw, hbytes.trans ?_⟩
      by_cases hunknown : arity code = none
      · rw [if_pos hunknown]
        cases ops with
        | nil => rfl
        | cons op ops =>
          have hdrop : decodeFrame (code :: (op :: ops).dropLast) = .command (.unknownCommand code) := by
            simp only [decodeFrame, hunknown]
          rcases hlast with hshort | hincomplete
          · simp at hshort
          · cases hdrop.symm.trans hincomplete
      · rw [if_neg hunknown]
  · intro hw hbytes
    have hdecode : decodeFrame bytes = .command i := by
      cases i with
      | definePoint b => exact Laws.FrameRoundTrip.definePoint b hw bytes hbytes
      | modifyPoint b => exact Laws.FrameRoundTrip.modifyPoint b hw bytes hbytes
      | unknownCommand c => exact Laws.FrameRoundTrip.unknownCommand c hw bytes hbytes
      | _ => cases hbytes <;> rfl
    refine ⟨hdecode, fun n hn => ?_⟩
    cases bytes with
    | nil => cases hdecode
    | cons code ops =>
      cases n with
      | zero => rfl
      | succ n =>
        cases hshort : decodeFrame ((code :: ops).take (n + 1)) with
        | incomplete => rfl
        | command j =>
          rw [List.length_cons] at hn
          by_cases hunknown : arity code = none
          · rw [(hostBytes_of_decodeFrame hdecode).2, if_pos hunknown] at hbytes
            cases hbytes
            exact absurd hn (by simp)
          · have hle := length_eq_of_decodeFrame hunknown hdecode hshort
            omega

end Sys2Proof.Proofs
end

section
/-! SUPPORT. What an event of the timebase can do, one case for each kind; and what every step can do, told once: a command's
effect, events, the end of a transaction, a reset, and a REFCLK period. An invariant of the units is shown by `Kept`. -/

namespace Sys2Proof.Machine

/-- An event of the timebase, with what makes it due; the end of every event, which puts silent horns at rest, is one too. -/
inductive Occurs (s : State) : State → Prop
  | rest : Occurs s (restHorns s)
  | window (hdue : chatterDue s = true) :
      Occurs s ((s.withLines (s.lines.map Line.closeWindow)).withTime { s.time with chatterCount := 0 })
  | batch (hready : isReady s = true) : Occurs s (deliver (batchOf s.lines) s)
  | key (k : ActionKey) (hready : isReady s = true) : Occurs s (keyEvent k (s.withKeys (s.keys.takeDue k)))
  | keyIgnored (k : ActionKey) : Occurs s (s.withKeys (s.keys.takeDue k))
  | lease (hdue : leaseDue s = true) (f : StickyFlags) :
      Occurs s (((pointEvent ageByOne s).withTime { s.time with leaseCount := 0 }).withFlags f)
  | minute (hdue : minuteDue s = true) :
      Occurs s (pointEventWith (runOut s.shelf) .nothing
        (onlyWhere (fun p => (runOut s.shelf).contains p.number) (arrive .unshelve))
        ((s.withShelf ((lowered s.shelf).filter fun e => e.remaining != 0)).withTime { s.time with minuteCount := 0 }))
  | settle (hsettling : isReady s = false) : Occurs s (settleEndEvent s)
  | gap : Occurs s (s.withOutput { s.output with gap := none })
  | warmUp : Occurs s (s.withDisplay
      { s.display with
        drive := .active, image := some (frameImage (s.withDisplay { s.display with drive := .active })) })
  | wrap :
      Occurs s ((s.withOutput { s.output with horn1 := s.output.horn1.takeTone, horn2 := s.output.horn2.takeTone }).withTime
        { s.time with wrapDue := false })
  | frame : Occurs s ((takeFrame s.time.cycle s).withTime { s.time with frameDue := false })
  | frameAhead (hlead : frameCanLead s = true) : Occurs s (frameAheadEvent s)
  | halfWave (h : HornId) : Occurs s (s.withOutput (s.output.updateHorn h Horn.toggle))

/-- Events one after the other. -/
abbrev Happens : State → State → Prop := Relation.ReflTransGen Occurs

theorem Happens.keeps {I : State → Prop} (hI : ∀ {s t}, Occurs s t → I s → I t) {s t : State} (h : Happens s t) (hs : I s) :
    I t := by
  induction h with
  | refl => exact hs
  | tail _ hstep ih => exact hI hstep ih

theorem happens_rest (s : State) : Happens s (restHorns s) := .single .rest

theorem happens_chatterExpiry (s : State) : Happens s (chatterExpiry s) := by
  unfold chatterExpiry
  split
  · next hdue => exact .single (.window hdue)
  · exact .refl

theorem isReady_chatterExpiry (s : State) : isReady (chatterExpiry s) = isReady s := by
  unfold chatterExpiry
  split <;> rfl

theorem happens_conditionBatch (s : State) : Happens s (conditionBatch s) := by
  rw [conditionBatch_eq]
  split
  · next hready =>
    refine (happens_chatterExpiry s).trans ?_
    unfold deliverLines
    split
    · exact .refl
    · exact .single (.batch ((isReady_chatterExpiry s).trans hready))
  · exact .refl

theorem happens_keyAction (k : ActionKey) (s : State) : Happens s (keyAction k s) := by
  unfold keyAction
  split
  · dsimp only
    split
    · next hacts => exact .single (.key k (Bool.and_eq_true .. ▸ hacts).1)
    · exact .single (.keyIgnored k)
  · exact .refl

theorem happens_leaseExpiry (s : State) : Happens s (leaseExpiry s) := by
  unfold leaseExpiry
  split
  · next hdue =>
    dsimp only
    split
    · exact .single (.lease hdue _)
    · exact .single (.lease hdue s.flags)
  · exact .refl

theorem happens_minuteExpiry (s : State) : Happens s (minuteExpiry s) := by
  unfold minuteExpiry
  split
  · next hdue => exact .single (.minute hdue)
  · exact .refl

theorem settling_of_settleDue {s : State} (h : settleDue s = true) : isReady s = false := by
  unfold settleDue at h
  cases hdevice : s.time.device with
  | ready => simp [hdevice] at h
  | settling n => simp [isReady, hdevice]

theorem settling_of_settleCanLead {s : State} (h : settleCanLead s = true) : isReady s = false := by
  obtain ⟨hdevice, -⟩ := Bool.and_eq_true .. ▸ h
  simp [isReady, eq_of_beq hdevice]

theorem happens_settleEnd (s : State) : Happens s (settleEnd s) := by
  unfold settleEnd
  split
  · next hdue => exact .single (.settle (settling_of_settleDue hdue))
  · exact .refl

theorem happens_gapEnd (s : State) : Happens s (gapEnd s) := by
  unfold gapEnd
  split
  · exact .single .gap
  · exact .refl

theorem happens_warmUpEnd (s : State) : Happens s (warmUpEnd s) := by
  unfold warmUpEnd
  split
  · exact .single .warmUp
  · exact .refl

theorem happens_takeWrap (s : State) : Happens s (takeWrap s) := by
  unfold takeWrap
  split
  · exact .single .wrap
  · exact .refl

theorem happens_frameBoundary (s : State) : Happens s (frameBoundary s) := by
  unfold frameBoundary
  split
  · exact .single .frame
  · exact .refl

theorem happens_halfWaveEnd (h : HornId) (s : State) : Happens s (halfWaveEnd h s) := by
  unfold halfWaveEnd
  split
  · exact .single (.halfWave h)
  · exact .refl

theorem happens_dueEvents {f : State → State} (h : f ∈ dueEvents) (s : State) : Happens s (f s) := by
  simp only [dueEvents, List.mem_cons, List.not_mem_nil, or_false] at h
  obtain rfl | rfl | rfl | rfl | rfl | rfl | rfl | rfl | rfl | rfl | rfl | rfl | rfl | rfl := h
  · exact happens_chatterExpiry s
  · exact happens_conditionBatch s
  · exact happens_keyAction .ack s
  · exact happens_keyAction .silence s
  · exact happens_keyAction .clear s
  · exact happens_leaseExpiry s
  · exact happens_minuteExpiry s
  · exact happens_settleEnd s
  · exact happens_gapEnd s
  · exact happens_warmUpEnd s
  · exact happens_takeWrap s
  · exact happens_frameBoundary s
  · exact happens_halfWaveEnd .horn1 s
  · exact happens_halfWaveEnd .horn2 s

/-- Each of some events taken in turn, with the end of an event after each. -/
def takeAll (fs : List (State → State)) (s : State) : State := fs.foldl (fun s f => restHorns (f s)) s

theorem takeDue_eq (s : State) : takeDue s = takeAll dueEvents s := rfl

theorem happens_takeAll {fs : List (State → State)} (hfs : ∀ f ∈ fs, ∀ s, Happens s (f s)) (s : State) :
    Happens s (takeAll fs s) := by
  induction fs generalizing s with
  | nil => exact .refl
  | cons f fs ih =>
    have hhead : Happens s (restHorns (f s)) := (hfs f List.mem_cons_self s).trans (happens_rest (f s))
    exact hhead.trans (ih (fun g hg => hfs g (List.mem_cons_of_mem f hg)) (restHorns (f s)))

theorem happens_takeDue (s : State) : Happens s (takeDue s) := happens_takeAll (fun _ hf => happens_dueEvents hf) s

/-! ### The rows -/

/-- The event of the row SETTLE_END: on its tick or ahead of it. -/
def settleEndRow (s : State) : State := if settleDue s || settleCanLead s then settleEndEvent s else s

/-- The event of the row FRAME_BOUNDARY: on its tick or ahead of it. -/
def frameBoundaryRow (s : State) : State := if !s.time.frameDue && frameCanLead s then frameAheadEvent s else frameBoundary s

/-- The event of a row that a tick or a REFCLK period brings; none for a host command, an edge, a reset and time itself. -/
def rowEvent : Instr → Option (State → State)
  | .conditionBatch => some conditionBatch
  | .keyAction k => some (keyAction k)
  | .chatterWindowExpiry => some chatterExpiry
  | .leaseExpiry => some leaseExpiry
  | .minuteExpiry => some minuteExpiry
  | .wrap => some takeWrap
  | .frameBoundary => some frameBoundaryRow
  | .warmUpEnd => some warmUpEnd
  | .gapEnd => some gapEnd
  | .settleEnd => some settleEndRow
  | .halfWaveEnd h => some (halfWaveEnd h)
  | _ => none

theorem exec_rowEvent {i : Instr} {f : State → State} (h : rowEvent i = some f) (s : State) :
    exec i s = .next (restHorns (f s)) := by
  cases i <;> cases h <;> rfl

theorem inner_settleEndRow : Inner settleEndRow := Inner.ite (fun _ _ => Iff.rfl) inner_settleEndEvent inner_id
theorem inner_frameBoundaryRow : Inner frameBoundaryRow :=
  Inner.ite (fun _ _ => Iff.rfl) inner_frameAheadEvent inner_frameBoundary

theorem inner_rowEvent {i : Instr} {f : State → State} (h : rowEvent i = some f) : Inner f := by
  cases i with
  | conditionBatch => cases h; exact inner_conditionBatch
  | keyAction k => cases h; exact inner_keyAction k
  | chatterWindowExpiry => cases h; exact inner_chatterExpiry
  | leaseExpiry => cases h; exact inner_leaseExpiry
  | minuteExpiry => cases h; exact inner_minuteExpiry
  | wrap => cases h; exact inner_takeWrap
  | frameBoundary => cases h; exact inner_frameBoundaryRow
  | warmUpEnd => cases h; exact inner_warmUpEnd
  | gapEnd => cases h; exact inner_gapEnd
  | settleEnd => cases h; exact inner_settleEndRow
  | halfWaveEnd x => cases h; exact inner_halfWaveEnd x
  | _ => cases h

theorem happens_settleEndRow (s : State) : Happens s (settleEndRow s) := by
  unfold settleEndRow
  split
  · next hdue =>
    refine .single (.settle ?_)
    rcases (Bool.or_eq_true ..).mp hdue with hdue | hlead
    · exact settling_of_settleDue hdue
    · exact settling_of_settleCanLead hlead
  · exact .refl

theorem happens_frameBoundaryRow (s : State) : Happens s (frameBoundaryRow s) := by
  unfold frameBoundaryRow
  split
  · next hlead => exact .single (.frameAhead ((Bool.and_eq_true ..).mp hlead).2)
  · exact happens_frameBoundary s

theorem happens_rowEvent {i : Instr} {f : State → State} (h : rowEvent i = some f) (s : State) : Happens s (f s) := by
  cases i with
  | conditionBatch => cases h; exact happens_conditionBatch s
  | keyAction k => cases h; exact happens_keyAction k s
  | chatterWindowExpiry => cases h; exact happens_chatterExpiry s
  | leaseExpiry => cases h; exact happens_leaseExpiry s
  | minuteExpiry => cases h; exact happens_minuteExpiry s
  | wrap => cases h; exact happens_takeWrap s
  | frameBoundary => cases h; exact happens_frameBoundaryRow s
  | warmUpEnd => cases h; exact happens_warmUpEnd s
  | gapEnd => cases h; exact happens_gapEnd s
  | settleEnd => cases h; exact happens_settleEndRow s
  | halfWaveEnd x => cases h; exact happens_halfWaveEnd x s
  | _ => cases h

/-! ### Terms that complete -/

/-- A term that is no command of the part is turned away (log 17). -/
theorem exec_illFormed {i : Instr} (hill : ¬ i.WellFormed) (s : State) : exec i s = .refused .illFormed := by
  cases i with
  | definePoint b =>
    have hcells : ¬ b.cells.length = cellBytes b.cellCount := fun hw => hill (decide_eq_true hw)
    exact if_neg hcells
  | modifyPoint b =>
    have hcells : ¬ b.cells.length = cellBytes b.cellCount := fun hw => hill (decide_eq_true hw)
    exact if_neg hcells
  | unknownCommand c =>
    have hknown : ¬ (arity c).isNone = true := fun hw => hill (decide_eq_true (Option.isNone_iff_eq_none.mp hw))
    exact if_neg hknown
  | _ => exact absurd rfl hill

/-- A term that completes is a command of the part. -/
theorem wellFormed_of_exec {i : Instr} {s t : State} (h : exec i s = .next t) : i.WellFormed := by
  by_contra hill
  cases (exec_illFormed hill s).symm.trans h

end Sys2Proof.Machine
end

section
/-! SUPPORT. Once everything due has been taken, nothing is due (log 2, log 9). -/

namespace Sys2Proof.Machine

/-! ### A frame boundary: what it keeps -/

@[simp] theorem takeFrame_points (c : Nat) (s : State) : (takeFrame c s).points = s.points := by rw [takeFrame_frame]
@[simp] theorem takeFrame_groups (c : Nat) (s : State) : (takeFrame c s).groups = s.groups := by rw [takeFrame_frame]
@[simp] theorem takeFrame_lines (c : Nat) (s : State) : (takeFrame c s).lines = s.lines := by rw [takeFrame_frame]
@[simp] theorem takeFrame_keys (c : Nat) (s : State) : (takeFrame c s).keys = s.keys := by rw [takeFrame_frame]
@[simp] theorem takeFrame_shelf (c : Nat) (s : State) : (takeFrame c s).shelf = s.shelf := by rw [takeFrame_frame]
@[simp] theorem takeFrame_output (c : Nat) (s : State) : (takeFrame c s).output = s.output := by rw [takeFrame_frame]
@[simp] theorem takeFrame_changes (c : Nat) (s : State) : (takeFrame c s).changes = s.changes := by rw [takeFrame_frame]
@[simp] theorem takeFrame_time (c : Nat) (s : State) : (takeFrame c s).time = s.time := by rw [takeFrame_frame]
@[simp] theorem takeFrame_drive (c : Nat) (s : State) : (takeFrame c s).display.drive = s.display.drive := by
  rw [takeFrame_frame]

/-! ### What an event makes no longer due stays so through every later event -/

theorem chatterDue_occurs {s t : State} (h : Occurs s t) (hs : chatterDue s = false) : chatterDue t = false := by
  cases h with
  | window => rfl
  | key k => cases k <;> exact hs
  | _ => exact hs

/-- Every line has been handed over. -/
theorem batchOf_handLines (ls : List Line) : batchOf (handLines ls) = [] := by
  have hnone : ∀ L ∈ handLines ls, (L.qualified != L.handed) = false := by
    intro L hL
    obtain ⟨M, -, rfl⟩ := List.mem_map.mp hL
    exact bne_eq_false_iff_eq.mpr rfl
  rw [batchOf, List.filter_eq_nil_iff.mpr (by simpa using hnone), List.map_nil]

/-- No work of the input unit's is due: neither an expiry nor, while READY, a batch. -/
def InputTaken (s : State) : Prop := chatterDue s = false ∧ (isReady s = true → batchOf s.lines = [])

theorem inputTaken_occurs {s t : State} (h : Occurs s t) (hs : InputTaken s) : InputTaken t := by
  obtain ⟨hc, hb⟩ := hs
  refine ⟨chatterDue_occurs h hc, ?_⟩
  cases h with
  | window hdue => rw [hc] at hdue; cases hdue
  | batch => exact fun _ => batchOf_handLines s.lines
  | settle => exact fun _ => batchOf_handLines s.lines
  | key k => cases k <;> exact hb
  | frame => rw [State.withTime_lines, takeFrame_lines]; exact hb
  | frameAhead => rw [frameAheadEvent, State.withTime_lines, takeFrame_lines]; exact hb
  | _ => exact hb

theorem keys_keyEvent (k : ActionKey) (s : State) : (keyEvent k s).keys = s.keys := by cases k <;> rfl

theorem due_takeDue (k k' : ActionKey) (K : Keys) (h : (K.record k).due = false) :
    ((K.takeDue k').record k).due = false := by
  cases k with
  | ack =>
    cases k' with
    | ack => rfl
    | silence | clear => exact h
  | silence =>
    cases k' with
    | silence => rfl
    | ack | clear => exact h
  | clear =>
    cases k' with
    | clear => rfl
    | ack | silence => exact h

theorem keyDue_occurs {k : ActionKey} {s t : State} (h : Occurs s t) (hs : (s.keys.record k).due = false) :
    (t.keys.record k).due = false := by
  cases h with
  | key k' => rw [keys_keyEvent]; exact due_takeDue k k' s.keys hs
  | keyIgnored k' => exact due_takeDue k k' s.keys hs
  | frame => simpa only [State.withTime_keys, takeFrame_keys] using hs
  | frameAhead => simpa only [frameAheadEvent, State.withTime_keys, takeFrame_keys] using hs
  | _ => exact hs

/-- A lease count that has been put back is not at the end of its range (R93). -/
theorem leaseDue_of_zero {s : State} (h : s.time.leaseCount = 0) : leaseDue s = false := by
  rw [leaseDue, h]
  by_cases h0 : s.time.leaseInterval = 0
  · simp [h0]
  · simp [h0, Config.leaseUnit]

theorem leaseDue_occurs {s t : State} (h : Occurs s t) (hs : leaseDue s = false) : leaseDue t = false := by
  cases h with
  | lease hdue => rw [hs] at hdue; cases hdue
  | settle => exact leaseDue_of_zero rfl
  | key k => cases k <;> exact hs
  | _ => exact hs

theorem minuteDue_occurs {s t : State} (h : Occurs s t) (hs : minuteDue s = false) : minuteDue t = false := by
  cases h with
  | minute => rfl
  | settle => rfl
  | key k => cases k <;> exact hs
  | _ => exact hs

theorem settleDue_occurs {s t : State} (h : Occurs s t) (hs : settleDue s = false) : settleDue t = false := by
  cases h with
  | settle => rfl
  | key k => cases k <;> exact hs
  | _ => exact hs

/-- A gap that an event begins has its whole length before it (R151). -/
theorem gapDue_pointEventWith {s : State} (h : gapDue s = false) (lead : List Nat) (ask : Asked) (f : Point → Moved) :
    gapDue (pointEventWith lead ask f s) = false := by
  rw [gapDue, pointEventWith_gap, gapAfter]
  split
  · rfl
  · exact h

theorem gapDue_occurs {s t : State} (h : Occurs s t) (hs : gapDue s = false) : gapDue t = false := by
  cases h with
  | batch => exact gapDue_pointEventWith hs [] .nothing _
  | key k =>
    cases k with
    | silence => exact hs
    | ack => exact gapDue_pointEventWith (s := s.withKeys (s.keys.takeDue .ack)) hs [] .nothing _
    | clear => exact gapDue_pointEventWith (s := s.withKeys (s.keys.takeDue .clear)) hs [] _ _
  | lease => exact gapDue_pointEventWith hs [] .nothing _
  | minute =>
    exact gapDue_pointEventWith (s := (s.withShelf _).withTime { s.time with minuteCount := 0 }) hs (runOut s.shelf) .nothing _
  | settle => exact gapDue_pointEventWith hs [] .nothing _
  | gap => rfl
  | halfWave x => cases x <;> exact hs
  | frame => simpa only [gapDue, State.withTime_output, takeFrame_output] using hs
  | frameAhead => simpa only [gapDue, frameAheadEvent, State.withTime_output, takeFrame_output] using hs
  | _ => exact hs

theorem warmUpDue_occurs {s t : State} (h : Occurs s t) (hs : warmUpDue s = false) : warmUpDue t = false := by
  cases h with
  | warmUp => rfl
  | key k => cases k <;> exact hs
  | frame => simpa only [warmUpDue, State.withTime_display, takeFrame_drive] using hs
  | frameAhead => simpa only [warmUpDue, frameAheadEvent, State.withTime_display, takeFrame_drive] using hs
  | _ => exact hs

theorem wrapDue_occurs {s t : State} (h : Occurs s t) (hs : s.time.wrapDue = false) : t.time.wrapDue = false := by
  cases h with
  | wrap => rfl
  | key k => cases k <;> exact hs
  | _ => exact hs

theorem frameDue_occurs {s t : State} (h : Occurs s t) (hs : s.time.frameDue = false) : t.time.frameDue = false := by
  cases h with
  | frame => rfl
  | key k => cases k <;> exact hs
  | _ => exact hs

/-! ### Each event leaves itself not due -/

/-- Of a run of events, one that brings `C` about in every state with `D`, both of which every event keeps. -/
theorem takeAll_establishes {C D : State → Prop} (hD : ∀ {s t}, Occurs s t → D s → D t)
    (hC : ∀ {s t}, Occurs s t → C s → C t) {fs : List (State → State)} (hfs : ∀ f ∈ fs, ∀ s, Happens s (f s))
    {f : State → State} (hf : f ∈ fs) (hest : ∀ s, D s → C (f s)) {s : State} (hs : D s) : C (takeAll fs s) := by
  induction fs generalizing s with
  | nil => cases hf
  | cons g fs ih =>
    have htail : ∀ f ∈ fs, ∀ s, Happens s (f s) := fun f hf => hfs f (List.mem_cons_of_mem g hf)
    rcases List.mem_cons.mp hf with rfl | hf
    · exact (happens_takeAll htail _).keeps hC (hC .rest (hest s hs))
    · exact ih htail hf (hD .rest ((hfs g List.mem_cons_self s).keeps hD hs))

/-- The same for one of the events that can be due on a tick, whatever the state. -/
theorem takeDue_establishes {C : State → Prop} (hC : ∀ {s t}, Occurs s t → C s → C t) {f : State → State}
    (hf : f ∈ dueEvents) (hest : ∀ s, C (f s)) (s : State) : C (takeDue s) :=
  takeAll_establishes (D := fun _ => True) (fun _ _ => trivial) hC (fun _ hf => happens_dueEvents hf) hf (fun s _ => hest s)
    trivial

theorem chatterDue_chatterExpiry (s : State) : chatterDue (chatterExpiry s) = false := by
  unfold chatterExpiry
  split
  · rfl
  · next h => exact eq_false_of_ne_true h

/-- With no expiry due, the batch hands over every line (R73). -/
theorem inputTaken_conditionBatch {s : State} (h : chatterDue s = false) : InputTaken (conditionBatch s) := by
  refine ⟨(happens_conditionBatch s).keeps chatterDue_occurs h, ?_⟩
  rw [conditionBatch_eq, chatterExpiry_idle h]
  split
  · unfold deliverLines
    split
    · next hempty => exact fun _ => List.isEmpty_iff.mp hempty
    · exact fun _ => batchOf_handLines s.lines
  · next hsettling => exact fun hready => absurd hready hsettling

theorem due_keyAction (k : ActionKey) (s : State) : ((keyAction k s).keys.record k).due = false := by
  have htaken : ((s.keys.takeDue k).record k).due = false := by cases k <;> rfl
  unfold keyAction
  split
  · dsimp only
    split
    · rw [keys_keyEvent]; exact htaken
    · exact htaken
  · next h => exact eq_false_of_ne_true h

theorem leaseDue_leaseExpiry (s : State) : leaseDue (leaseExpiry s) = false := by
  unfold leaseExpiry
  split
  · refine leaseDue_of_zero ?_
    dsimp only
    split <;> rfl
  · next h => exact eq_false_of_ne_true h

theorem minuteDue_minuteExpiry (s : State) : minuteDue (minuteExpiry s) = false := by
  unfold minuteExpiry
  split
  · rfl
  · next h => exact eq_false_of_ne_true h

theorem settleDue_settleEnd (s : State) : settleDue (settleEnd s) = false := by
  unfold settleEnd
  split
  · rfl
  · next h => exact eq_false_of_ne_true h

theorem gapDue_gapEnd (s : State) : gapDue (gapEnd s) = false := by
  unfold gapEnd
  split
  · rfl
  · next h => exact eq_false_of_ne_true h

theorem warmUpDue_warmUpEnd (s : State) : warmUpDue (warmUpEnd s) = false := by
  unfold warmUpEnd
  split
  · rfl
  · next h => exact eq_false_of_ne_true h

theorem wrapDue_takeWrap (s : State) : (takeWrap s).time.wrapDue = false := by
  unfold takeWrap
  split
  · rfl
  · next h => exact eq_false_of_ne_true h

theorem frameDue_frameBoundary (s : State) : (frameBoundary s).time.frameDue = false := by
  unfold frameBoundary
  split
  · rfl
  · next h => exact eq_false_of_ne_true h

/-! ### The half-waves, which come last -/

/-- A horn with a count of 0, or silent, has no half-wave end due (R145). -/
theorem halfWaveDue_of_zero {s : State} {h : HornId} (h0 : sounding s h = false ∨ (s.output.horn h).wave.elapsed = 0) :
    halfWaveDue s h = false := by
  rcases h0 with h0 | h0 <;> simp [halfWaveDue, h0]

theorem sounding_updateHorn_toggle (s : State) (h k : HornId) :
    sounding (s.withOutput (s.output.updateHorn h Horn.toggle)) k = sounding s k := by cases h <;> cases k <;> rfl

theorem halfWaveDue_halfWaveEnd (h : HornId) (s : State) : halfWaveDue (halfWaveEnd h s) h = false := by
  unfold halfWaveEnd
  split
  · exact halfWaveDue_of_zero (.inr (by cases h <;> rfl))
  · next hidle => exact eq_false_of_ne_true hidle

/-- The end of an event leaves due what was due, since only silent horns are put at rest. -/
theorem halfWaveDue_restHorns (h : HornId) (s : State) : halfWaveDue (restHorns s) h = halfWaveDue s h := by
  rw [halfWaveDue, halfWaveDue, sounding_restHorns]
  cases hs : sounding s h with
  | false => rfl
  | true => cases h <;> simp [Output.horn, hs]

theorem halfWaveDue_horn1_halfWaveEnd_horn2 (s : State) : halfWaveDue (halfWaveEnd .horn2 s) .horn1 = halfWaveDue s .horn1 := by
  unfold halfWaveEnd
  split <;> rfl

/-- The chatter-window expiry is taken first. -/
theorem takeDue_chatterExpiry (s : State) : takeDue s = takeAll dueEvents.tail (restHorns (chatterExpiry s)) := by
  have hsplit : chatterExpiry :: dueEvents.tail = dueEvents := rfl
  rw [takeDue_eq, ← hsplit, takeAll, List.foldl_cons]
  rfl

/-- The half-wave ends are taken last. -/
theorem takeDue_halfWaves (s : State) :
    ∃ u, takeDue s = restHorns (halfWaveEnd .horn2 (restHorns (halfWaveEnd .horn1 u))) := by
  have hsplit : dueEvents.take 12 ++ [halfWaveEnd .horn1, halfWaveEnd .horn2] = dueEvents := rfl
  refine ⟨takeAll (dueEvents.take 12) s, ?_⟩
  rw [takeDue_eq, ← hsplit, takeAll, List.foldl_append]
  rfl

/-- After everything due has been taken, nothing is due. -/
theorem nothingDue_takeDue (s : State) : NothingDue (takeDue s) := by
  have hinput : InputTaken (takeDue s) := by
    rw [takeDue_chatterExpiry]
    exact takeAll_establishes (fs := dueEvents.tail) (D := fun s => chatterDue s = false) (f := conditionBatch) chatterDue_occurs
      inputTaken_occurs (fun _ hf => happens_dueEvents (List.mem_of_mem_tail hf)) (by simp [dueEvents])
      (fun _ => inputTaken_conditionBatch) (chatterDue_occurs .rest (chatterDue_chatterExpiry s))
  have hkey (k : ActionKey) : ((takeDue s).keys.record k).due = false :=
    takeDue_establishes (f := keyAction k) keyDue_occurs (by cases k <;> simp [dueEvents]) (due_keyAction k) s
  obtain ⟨u, hu⟩ := takeDue_halfWaves s
  refine ⟨hinput.1, hinput.2, hkey .ack, hkey .silence, hkey .clear, ?_, ?_, ?_, ?_, ?_, ?_, ?_, ?horn1, ?horn2⟩
  · exact takeDue_establishes (f := leaseExpiry) leaseDue_occurs (by simp [dueEvents]) leaseDue_leaseExpiry s
  · exact takeDue_establishes (f := minuteExpiry) minuteDue_occurs (by simp [dueEvents]) minuteDue_minuteExpiry s
  · exact takeDue_establishes (f := settleEnd) settleDue_occurs (by simp [dueEvents]) settleDue_settleEnd s
  · exact takeDue_establishes (f := gapEnd) gapDue_occurs (by simp [dueEvents]) gapDue_gapEnd s
  · exact takeDue_establishes (f := warmUpEnd) warmUpDue_occurs (by simp [dueEvents]) warmUpDue_warmUpEnd s
  · exact takeDue_establishes (f := takeWrap) wrapDue_occurs (by simp [dueEvents]) wrapDue_takeWrap s
  · exact takeDue_establishes (f := frameBoundary) frameDue_occurs (by simp [dueEvents]) frameDue_frameBoundary s
  case horn1 =>
    rw [hu, halfWaveDue_restHorns, halfWaveDue_horn1_halfWaveEnd_horn2, halfWaveDue_restHorns, halfWaveDue_halfWaveEnd]
  case horn2 => rw [hu, halfWaveDue_restHorns, halfWaveDue_halfWaveEnd]

theorem wavesOk_takeDue (s : State) : WavesOk (takeDue s) := by
  obtain ⟨u, hu⟩ := takeDue_halfWaves s
  rw [hu]
  exact wavesOk_restHorns _

end Sys2Proof.Machine
end

section
/-! SUPPORT. An invariant of the units: what is to be shown of it so that every step keeps it. -/

namespace Sys2Proof.Machine

/-- The prescaler one REFCLK period on (R190). -/
def State.counted (s : State) : State := s.withTime { s.time with prescaler := s.time.prescaler + 1 }

/-- What a REFCLK period is: everything due, then the waves, then the prescaler or the tick (R190). -/
theorem refclkPeriod_eq (lines : BitVec 24) (keys : BitVec 4) (s : State) :
    refclkPeriod lines keys s =
      if (takeDue s).time.prescaler + 1 < 32 then (advanceWaves (takeDue s)).counted
      else restHorns (tickEvent lines keys (advanceWaves (takeDue s))) := by
  unfold refclkPeriod
  generalize takeDue s = u
  rfl

/-- `I` turns on the units alone, holds at reset, and is kept by whatever can happen to a unit. -/
structure Kept (I : State → Prop) : Prop where
  within {s : State} (e : Surroundings) : I s → I (s.within e)
  reset : I State.reset
  admitted {marking : Prop} {s t : State} : isReady s = true → Admitted marking s t → I s → I t
  flags {s : State} (f : StickyFlags) : I s → I (s.withFlags f)
  removed {s : State} (n : Nat) : I s → I (s.withChanges (settleEntries n 0 s.changes))
  occurs {s t : State} : Occurs s t → I s → I t
  advanced {s : State} : I s → I (advanceWaves s)
  counted {s : State} : s.time.prescaler + 1 < 32 → I s → I s.counted
  ticked {s : State} (lines : BitVec 24) (keys : BitVec 4) :
    NothingDue s → ¬ s.time.prescaler + 1 < 32 → I s → I (tickEvent lines keys (advanceWaves s))

namespace Kept

variable {I : State → Prop}

theorem happens (hI : Kept I) {s t : State} (h : Happens s t) (hs : I s) : I t := h.keeps hI.occurs hs

theorem rest (hI : Kept I) {s : State} (hs : I s) : I (restHorns s) := hI.occurs .rest hs

theorem withPort (hI : Kept I) {s : State} (p : Port) (hs : I s) : I (s.withPort p) :=
  hI.within { s.surroundings with port := p } hs

theorem resetValues (hI : Kept I) (s : State) (rstn cs : Bool) (p : Port) : I (resetValues s rstn cs p) :=
  hI.within { rstn := rstn, cs := cs, port := p, pending := s.pending } hI.reset

theorem performed (hI : Kept I) {marking : Prop} {s t : State} (h : Performed marking s t) (hs : I s) : I t := by
  cases h with
  | nothing => exact hs
  | flags f => exact hI.flags f hs
  | admitted hready h => exact hI.admitted hready h hs

theorem takeCommand (hI : Kept I) {i : Instr} {bytes : List Byte} (hw : i.WellFormed) (hb : hostBytes i = some bytes) {s : State}
    (hs : I s) : I (takeCommand i s) := by
  rw [takeCommand_eq hb, taken_eq]
  exact hI.withPort _ (hI.rest (hI.performed (commandEffect_performed hw s) hs))

theorem sckEdge (hI : Kept I) (si : Bool) (t : Transaction) {s : State} (hs : I s) : I (sckEdge si t s) := by
  unfold Machine.sckEdge
  split
  · dsimp only
    split
    · exact hI.withPort _ hs
    · unfold completeOperand
      split
      · exact hI.withPort _ hs
      · next hframe =>
        obtain ⟨hw, bytes, hb⟩ := decodeFrame_wellFormed hframe
        exact hI.takeCommand hw hb hs
  · split <;> exact hI.withPort _ hs

theorem endTransaction (hI : Kept I) (t : Transaction) {s : State} (hs : I s) : I (endTransaction t s) := by
  unfold Machine.endTransaction
  split
  · exact hI.flags _ hs
  · split
    · exact hI.flags _ hs
    · exact hI.removed _ hs
    · exact hI.resetValues ..
    · exact hs

theorem csRise (hI : Kept I) {s t : State} (h : exec .csRise s = .next t) (hs : I s) : I t := by
  have hpins : I (s.withPins s.rstn true) := hI.within { s.surroundings with cs := true } hs
  change execCsRise s = _ at h
  unfold execCsRise at h
  split at h
  · cases h; exact hs
  · dsimp only at h
    split at h <;> cases h
    · exact hI.rest (hI.withPort _ (hI.endTransaction _ hpins))
    · exact hI.withPort _ hpins

theorem refclkPeriod (hI : Kept I) (lines : BitVec 24) (keys : BitVec 4) {s : State} (hs : I s) :
    I (refclkPeriod lines keys s) := by
  have hdue : I (takeDue s) := hI.happens (happens_takeDue s) hs
  rw [refclkPeriod_eq]
  split
  · next hcount => exact hI.counted hcount (hI.advanced hdue)
  · next htick => exact hI.rest (hI.ticked lines keys (nothingDue_takeDue s) htick hdue)

theorem refclkPeriods (hI : Kept I) (lines : BitVec 24) (keys : BitVec 4) (n : Nat) {s : State} (hs : I s) :
    I (refclkPeriods lines keys n s) := by
  induction n generalizing s with
  | zero => exact hs
  | succ n ih => exact ih (hI.refclkPeriod lines keys hs)

theorem row (hI : Kept I) {i : Instr} {f : State → State} (hi : rowEvent i = some f) {s t : State} (h : exec i s = .next t)
    (hs : I s) : I t := by
  cases (exec_rowEvent hi s).symm.trans h
  exact hI.rest (hI.happens (happens_rowEvent hi s) hs)

theorem host (hI : Kept I) {i : Instr} {bytes : List Byte} (hb : hostBytes i = some bytes) {s t : State}
    (h : exec i s = .next t) (hs : I s) : I t := by
  have hw := wellFormed_of_exec h
  rw [exec_eq_atTaking hw hb] at h
  cases h
  split
  · exact hI.takeCommand hw hb hs
  · exact hs

/-- Every command keeps an invariant of the units. -/
theorem exec (hI : Kept I) {i : Instr} {s t : State} (h : exec i s = .next t) (hs : I s) : I t := by
  cases i with
  | csFall =>
    cases h
    split
    · exact hI.withPort _ (hI.within { s.surroundings with cs := false } hs)
    · exact hs
  | csRise => exact hI.csRise h hs
  | pinReset => cases h; exact hI.resetValues ..
  | rstnRelease =>
    cases h
    split
    · exact hs
    · exact hI.resetValues ..
  | tick lines keys =>
    cases h
    split
    · exact hI.refclkPeriods lines keys _ hs
    · exact hs
  | refclkPeriod lines keys =>
    cases h
    split
    · exact hI.refclkPeriod lines keys hs
    · exact hs
  | sckRisingEdge si =>
    change execSckRisingEdge si s = _ at h
    unfold execSckRisingEdge at h
    split at h <;> cases h
    · exact hI.sckEdge si _ hs
    · exact hs
  | conditionBatch | keyAction | chatterWindowExpiry | leaseExpiry | minuteExpiry | wrap | frameBoundary | warmUpEnd | gapEnd
  | settleEnd | halfWaveEnd => exact hI.row rfl h hs
  | _ => exact hI.host rfl h hs

/-- Every step keeps an invariant of the units. -/
theorem step (hI : Kept I) {s t : State} (h : step s = .next t) (hs : I s) : I t := by
  unfold Machine.step at h
  split at h
  · cases h; exact hs
  · exact hI.exec h (hI.within { s.surroundings with pending := _ } hs)

end Kept
end Sys2Proof.Machine
end

section
/-! SUPPORT. The line and key records stay in their ranges (R65, R77, R78, R81). -/

namespace Sys2Proof.Machine

/-! ### One line -/

theorem lineOk_closeWindow {L : Line} (h : LineOk L) : LineOk L.closeWindow := by
  obtain ⟨hlow, hhigh, hrun, -, hlimit, hchatter, hdisabled⟩ := h
  refine ⟨hlow, hhigh, hrun, Nat.zero_le _, hlimit, ?_, ?_⟩ <;> simp only [Line.closeWindow] <;> split
  · exact nofun
  · exact hchatter
  · exact nofun
  · exact hdisabled

theorem lineOk_handed {L : Line} (h : LineOk L) (c : Condition) : LineOk { L with handed := c } := h

/-- A flip of a line that is not DISABLED (R70). -/
theorem lineOk_flip {L : Line} (h : LineOk L) (hmode : L.mode ≠ .disabled) (c : Condition) : LineOk (L.flip c) := by
  obtain ⟨hlow, hhigh, -, -, hlimit, hchatter, -⟩ := h
  refine ⟨hlow, hhigh, hlow, Nat.min_le_left .., hlimit, ?_, ?_⟩ <;> simp only [Line.flip] <;> split
  · next henters => exact fun _ => henters.2.1
  · exact hchatter
  · exact nofun
  · exact fun hoff => absurd hoff hmode

theorem lineOk_filterSample {L : Line} (h : LineOk L) (hmode : L.mode ≠ .disabled) (c : Condition) :
    LineOk (L.filterSample c) := by
  have hflip := lineOk_flip h hmode c
  obtain ⟨hlow, hhigh, hrun, hcount, hlimit, hchatter, hdisabled⟩ := h
  unfold Line.filterSample
  split
  · exact ⟨hlow, hhigh, hlow, hcount, hlimit, hchatter, fun hoff => absurd hoff hmode⟩
  split
  · next hmore => exact ⟨hlow, hhigh, hmore, hcount, hlimit, hchatter, fun hoff => absurd hoff hmode⟩
  · exact hflip

theorem number_takeLevel (L : Line) (x : Level) : (L.takeLevel x).number = L.number := by
  unfold Line.takeLevel Line.filterSample
  dsimp only
  split
  · rfl
  split
  · rfl
  split <;> rfl

theorem lineOk_takeLevel {L : Line} (h : LineOk L) (x : Level) : LineOk (L.takeLevel x) := by
  unfold Line.takeLevel
  dsimp only
  split
  · exact h
  · next hmode => exact lineOk_filterSample (L := { L with raw := x }) h hmode _

theorem lineOk_configure {L : Line} (h : LineOk L) {c : LineSettings} (hc : c.InRange) : LineOk (L.configure c) := by
  obtain ⟨-, -, hrun, hcount, -, hchatter, hdisabled⟩ := h
  obtain ⟨hlow, hhigh, hlimit⟩ := hc
  unfold Line.configure
  split
  · refine ⟨hlow, hhigh, hlow, Nat.zero_le _, hlimit, ?_, fun _ => ⟨rfl, rfl⟩⟩
    simp only [Line.reinitialise]
    split <;> exact nofun
  · refine ⟨hlow, hhigh, ?run, hcount, hlimit, ?chatter, ?disabled⟩ <;> simp only [Line.retune]
    case run =>
      split
      · next hsame => exact hsame ▸ hrun
      · exact hlow
    case chatter =>
      split
      · exact nofun
      · next hstays => exact fun hmode hzero => hstays ⟨hzero, hmode⟩
    case disabled =>
      split
      · exact nofun
      · intro hoff
        obtain ⟨hfiltered, hzero⟩ := hdisabled hoff
        refine ⟨hfiltered, ?_⟩
        split
        · exact hzero
        · rfl

theorem number_configure (L : Line) (c : LineSettings) : (L.configure c).number = L.number := by
  unfold Line.configure
  split <;> rfl

/-! ### The line records -/

/-- A list of line records is the 24 of the part, each in its ranges. -/
abbrev LineTable (ls : List Line) : Prop := ls.map Line.number = List.range Config.lineCount ∧ ∀ L ∈ ls, LineOk L

theorem LineTable.map {ls : List Line} (h : LineTable ls) {f : Line → Line} (hnumber : ∀ L, (f L).number = L.number)
    (hf : ∀ L, LineOk L → LineOk (f L)) : LineTable (ls.map f) := by
  obtain ⟨hnumbers, hok⟩ := h
  constructor
  · rw [List.map_map, ← hnumbers]
    exact List.map_congr_left fun L _ => hnumber L
  · intro L hL
    obtain ⟨M, hM, rfl⟩ := List.mem_map.mp hL
    exact hf M (hok M hM)

theorem LineTable.handLines {ls : List Line} (h : LineTable ls) : LineTable (handLines ls) :=
  h.map (fun _ => rfl) fun _ hL => lineOk_handed hL _

theorem LineTable.updateLine {ls : List Line} (h : LineTable ls) (n : Nat) {c : LineSettings} (hc : c.InRange) :
    LineTable (updateLine n (fun L => L.configure c) ls) := by
  refine h.map ?_ ?_
  · intro L
    split
    · exact number_configure L c
    · rfl
  · intro L hL
    split
    · exact lineOk_configure hL hc
    · exact hL

theorem linesOk_occurs {s t : State} (h : Occurs s t) (hs : LinesOk s) : LinesOk t := by
  cases h with
  | window => exact LineTable.map hs (fun _ => rfl) fun _ => lineOk_closeWindow
  | batch => exact LineTable.handLines hs
  | settle => exact LineTable.handLines hs
  | key k => cases k <;> exact hs
  | frame => rw [LinesOk, State.withTime_lines, takeFrame_lines]; exact hs
  | frameAhead => rw [LinesOk, frameAheadEvent, State.withTime_lines, takeFrame_lines]; exact hs
  | _ => exact hs

theorem linesOk_reconfigureLine {s : State} (h : LinesOk s) (n : Nat) {c : LineSettings} (hc : c.InRange) :
    LinesOk (reconfigureLine n c s) := by
  have hupdated := LineTable.updateLine h n hc
  unfold reconfigureLine
  dsimp only
  split
  · exact hupdated
  · exact hupdated.handLines

theorem linesOk_admitted {marking : Prop} {s t : State} (h : Admitted marking s t) (hs : LinesOk s) : LinesOk t := by
  cases h with
  | configureInput hc =>
    exact linesOk_reconfigureLine (linesOk_occurs .rest ((happens_conditionBatch s).keeps linesOk_occurs hs)) _ hc
  | _ => exact hs

theorem kept_linesOk : Kept LinesOk where
  within _ h := h
  reset := by decide
  admitted _ h := linesOk_admitted h
  flags _ h := h
  removed _ h := h
  occurs := linesOk_occurs
  advanced h := h
  counted _ h := h
  ticked lines _ _ _ h := LineTable.map h (fun L => number_takeLevel L _) fun _ hL => lineOk_takeLevel hL _

/-! ### The keys -/

theorem runCount_takeLevel (K : KeyRecord) (high acts : Bool) :
    (K.takeLevel high acts).runCount < Config.keyFilter := by
  unfold KeyRecord.takeLevel
  dsimp only
  generalize (if high = true then KeyState.released else KeyState.pressed) = sample
  split
  · exact Nat.zero_lt_succ _
  split
  · assumption
  · exact Nat.zero_lt_succ _

/-- A key that raises no action (R85). -/
theorem due_takeLevel_of_not_acts {K : KeyRecord} (h : K.due = false) (high : Bool) : (K.takeLevel high false).due = false := by
  unfold KeyRecord.takeLevel
  dsimp only
  generalize (if high = true then KeyState.released else KeyState.pressed) = sample
  split
  · exact h
  split
  · exact h
  · simp [h]

theorem keysOk_takeDue {s : State} (h : KeysOk s) (k : ActionKey) : KeysOk (s.withKeys (s.keys.takeDue k)) := by
  cases k <;> exact h

theorem keysOk_occurs {s t : State} (h : Occurs s t) (hs : KeysOk s) : KeysOk t := by
  cases h with
  | key k => rw [KeysOk, keys_keyEvent]; exact keysOk_takeDue hs k
  | keyIgnored k => exact keysOk_takeDue hs k
  | frame => rw [KeysOk, State.withTime_keys, takeFrame_keys]; exact hs
  | frameAhead => rw [KeysOk, frameAheadEvent, State.withTime_keys, takeFrame_keys]; exact hs
  | _ => exact hs

theorem keys_reconfigureLine (n : Nat) (c : LineSettings) (s : State) : (reconfigureLine n c s).keys = s.keys := by
  unfold reconfigureLine
  dsimp only
  split <;> rfl

theorem keysOk_admitted {marking : Prop} {s t : State} (h : Admitted marking s t) (hs : KeysOk s) : KeysOk t := by
  cases h with
  | configureInput =>
    rw [KeysOk, keys_reconfigureLine]
    exact keysOk_occurs .rest ((happens_conditionBatch s).keeps keysOk_occurs hs)
  | _ => exact hs

theorem keysOk_tickEvent {s : State} (h : KeysOk s) (lines : BitVec 24) (keys : BitVec 4) : KeysOk (tickEvent lines keys s) := by
  obtain ⟨-, -, -, -, hdue⟩ := h
  exact ⟨runCount_takeLevel .., runCount_takeLevel .., runCount_takeLevel .., runCount_takeLevel ..,
    due_takeLevel_of_not_acts hdue _⟩

theorem kept_keysOk : Kept KeysOk where
  within _ h := h
  reset := by decide
  admitted _ h := keysOk_admitted h
  flags _ h := h
  removed _ h := h
  occurs := keysOk_occurs
  advanced h := h
  counted _ h := h
  ticked lines keys _ _ h := keysOk_tickEvent h lines keys

end Sys2Proof.Machine
end

section
/-! The statement about the inputs. -/

namespace Sys2Proof.Proofs
open Sys2Proof.Machine

/-- Settles O8: the lines and the keys are each kept. -/
theorem stepKeepsInputs : Obligations.StepKeepsInputs :=
  fun _ _ ⟨hlines, hkeys⟩ h => ⟨kept_linesOk.step h hlines, kept_keysOk.step h hkeys⟩

end Sys2Proof.Proofs
end

section
/-! SUPPORT. The counts of the timebase stay in their ranges (R190 to R197). -/

namespace Sys2Proof.Machine

/-- The next counter value is the value after it on the circle of 2048 (R192). -/
theorem nextCycle_eq {c : Nat} (h : c < 2048) : nextCycle c = (c + 1) % 2048 := by
  unfold nextCycle
  split
  · next hlast => rw [hlast]; rfl
  · next hmore =>
    have hne : c + 1 ≠ 2048 := hmore
    omega

theorem nextCycle_lt {c : Nat} (h : c < 2048) : nextCycle c < 2048 := by
  rw [nextCycle_eq h]
  exact Nat.mod_lt _ (by decide)

theorem tickIsNext_iff (s : State) : tickIsNext s = true ↔ s.time.prescaler = 31 := by
  rw [tickIsNext, beq_iff_eq]
  exact Nat.succ_inj

theorem framesNext_iff {c : Nat} (h : c < 2048) : framesNext c = true ↔ (c + 1) % 16 = 0 := by
  rw [framesNext, beq_iff_eq, nextCycle_eq h]
  simp only [Config.frameLength]
  omega

/-- A boundary may be taken ahead of its tick in the one period before that tick (R134, log 22). -/
theorem frameCanLead_iff {s : State} (h : s.time.cycle < 2048) :
    frameCanLead s = true ↔ s.time.prescaler = 31 ∧ (s.time.cycle + 1) % 16 = 0 ∧ s.time.frameAhead = false := by
  rw [frameCanLead, Bool.and_eq_true, Bool.and_eq_true, tickIsNext_iff, framesNext_iff h, Bool.not_eq_true', and_assoc]

theorem timeOk_occurs {s t : State} (h : Occurs s t) (hs : TimeOk s) : TimeOk t := by
  have hall := hs
  obtain ⟨hprescaler, hcycle, hchatter, hinterval, hlease, hminute, hdevice, hahead⟩ := hs
  cases h with
  | window => exact ⟨hprescaler, hcycle, Nat.zero_le _, hinterval, hlease, hminute, hdevice, hahead⟩
  | lease => exact ⟨hprescaler, hcycle, hchatter, hinterval, Nat.zero_le _, hminute, hdevice, hahead⟩
  | minute => exact ⟨hprescaler, hcycle, hchatter, hinterval, hlease, Nat.zero_le _, hdevice, hahead⟩
  | settle => exact ⟨hprescaler, hcycle, hchatter, hinterval, Nat.zero_le _, Nat.zero_le _, nofun, hahead⟩
  | frameAhead hlead =>
    obtain ⟨hlast, hboundary, -⟩ := (frameCanLead_iff hcycle).mp hlead
    exact ⟨hprescaler, hcycle, hchatter, hinterval, hlease, hminute, hdevice, fun _ => ⟨hlast, hboundary⟩⟩
  | key k => cases k <;> exact hall
  | _ => exact hall

theorem time_reconfigureLine (n : Nat) (c : LineSettings) (s : State) : (reconfigureLine n c s).time = s.time := by
  unfold reconfigureLine
  dsimp only
  split <;> rfl

theorem timeOk_admitted {marking : Prop} {s t : State} (h : Admitted marking s t) (hs : TimeOk s) : TimeOk t := by
  have hall := hs
  obtain ⟨hprescaler, hcycle, hchatter, hinterval, -, hminute, hdevice, hahead⟩ := hs
  cases h with
  | restart =>
    refine ⟨hprescaler, hcycle, hchatter, hinterval, Nat.zero_le _, Nat.zero_le _, ?_, hahead⟩
    rintro n ⟨⟩
    exact Nat.zero_le _
  | lease hn => exact ⟨hprescaler, hcycle, hchatter, hn, Nat.zero_le _, hminute, hdevice, hahead⟩
  | configureInput =>
    rw [TimeOk, time_reconfigureLine]
    exact timeOk_occurs .rest ((happens_conditionBatch s).keeps timeOk_occurs hall)
  | _ => exact hall

/-- A lease count that is not due is below the end of its range, unless the interval is 0 (R93). -/
theorem leaseCount_lt {s : State} (h : leaseDue s = false) (h0 : s.time.leaseInterval ≠ 0) :
    s.time.leaseCount < s.time.leaseInterval * Config.leaseUnit := by
  simpa [leaseDue, h0] using h

/-- A tick, where nothing is due, brings no count beyond the end of its range. -/
theorem timeOk_tick {s : State} (h : NothingDue s) (hs : TimeOk s) (lines : BitVec 24) (keys : BitVec 4) :
    TimeOk (tickEvent lines keys (advanceWaves s)) := by
  obtain ⟨hchatter, -, -, -, -, hlease, hminute, hsettle, -⟩ := h
  obtain ⟨-, hcycle, -, hinterval, hleaseLe, hminuteLe, -, -⟩ := hs
  have hchatter' : s.time.chatterCount < Config.chatterWindow := Nat.lt_of_not_le (of_decide_eq_false hchatter)
  have hminute' : s.time.minuteCount < Config.minuteLength := Nat.lt_of_not_le (of_decide_eq_false hminute)
  refine ⟨Nat.zero_lt_succ _, nextCycle_lt hcycle, hchatter', hinterval, ?lease, ?minute, ?device, nofun⟩
  case lease =>
    change (if intervalRuns s.time && s.time.leaseInterval != 0 then s.time.leaseCount + 1 else s.time.leaseCount) ≤ _
    split
    · next hruns =>
      have h0 : s.time.leaseInterval ≠ 0 := by simpa using ((Bool.and_eq_true ..).mp hruns).2
      exact leaseCount_lt hlease h0
    · exact hleaseLe
  case minute =>
    change (if intervalRuns s.time then s.time.minuteCount + 1 else s.time.minuteCount) ≤ _
    split
    · exact hminute'
    · exact hminuteLe
  case device =>
    change ∀ n ∈ s.time.device.tick.count, n ≤ Config.settleLength
    unfold settleDue at hsettle
    cases hdevice : s.time.device with
    | ready => exact nofun
    | settling n =>
      rw [hdevice] at hsettle
      rintro m ⟨⟩
      exact Nat.lt_of_not_le (of_decide_eq_false hsettle)

theorem timeOk_counted {s : State} (h : s.time.prescaler + 1 < 32) (hs : TimeOk s) : TimeOk s.counted := by
  obtain ⟨-, hcycle, hchatter, hinterval, hlease, hminute, hdevice, hahead⟩ := hs
  refine ⟨h, hcycle, hchatter, hinterval, hlease, hminute, hdevice, fun hmark => ?_⟩
  obtain ⟨hlast, -⟩ := hahead hmark
  omega

theorem kept_timeOk : Kept TimeOk where
  within _ h := h
  reset := by decide
  admitted _ h := timeOk_admitted h
  flags _ h := h
  removed _ h := h
  occurs := timeOk_occurs
  advanced h := h
  counted := timeOk_counted
  ticked lines keys hdue _ h := timeOk_tick hdue h lines keys

end Sys2Proof.Machine
end

section
/-! The statement about the timebase. -/

namespace Sys2Proof.Proofs
open Sys2Proof.Machine

/-- Settles O9. -/
theorem stepKeepsTimebase : Obligations.StepKeepsTimebase := fun _ _ htime h => kept_timeOk.step h htime

end Sys2Proof.Proofs
end

section
/-! SUPPORT. What the spec says of SETTLING (R195, R197). -/

namespace Sys2Proof.Machine

theorem settlingOk_of_ready {s : State} (h : isReady s = true) : SettlingOk s := by
  intro hsettling
  rw [h] at hsettling
  cases hsettling

/-- While the lease timer stands at 0 no lease expiry is due (R93, R195). -/
theorem settling_not_leaseDue {s : State} (h : SettlingOk s) (hsettling : isReady s = false) : leaseDue s = false := by
  obtain ⟨-, -, -, -, hlease, -⟩ := h hsettling
  exact leaseDue_of_zero hlease

theorem settling_not_minuteDue {s : State} (h : SettlingOk s) (hsettling : isReady s = false) : minuteDue s = false := by
  obtain ⟨-, -, -, -, -, hminute⟩ := h hsettling
  rw [minuteDue, hminute]
  rfl

theorem settlingOk_occurs {s t : State} (h : Occurs s t) (hs : SettlingOk s) : SettlingOk t := by
  cases h with
  | batch hready => exact settlingOk_of_ready hready
  | key k hready => exact settlingOk_of_ready (by cases k <;> exact hready)
  | settle => exact settlingOk_of_ready rfl
  | lease hdue =>
    intro hsettling
    rw [settling_not_leaseDue hs hsettling] at hdue
    cases hdue
  | minute hdue =>
    intro hsettling
    rw [settling_not_minuteDue hs hsettling] at hdue
    cases hdue
  | frame =>
    simp only [SettlingOk, State.withTime_points, State.withTime_shelf, State.withTime_changes, State.withTime_groups,
      State.withTime_time, takeFrame_points, takeFrame_shelf, takeFrame_changes, takeFrame_groups]
    exact hs
  | frameAhead =>
    simp only [SettlingOk, frameAheadEvent, State.withTime_points, State.withTime_shelf, State.withTime_changes,
      State.withTime_groups, State.withTime_time, takeFrame_points, takeFrame_shelf, takeFrame_changes, takeFrame_groups]
    exact hs
  | _ => exact hs

/-- RESTART begins a settle with every runtime at its initial values (R202). -/
theorem settlingOk_restartEvent (s : State) : SettlingOk (restartEvent s) := by
  intro _
  refine ⟨?_, rfl, rfl, ?_, rfl, rfl⟩
  · intro p hp
    obtain ⟨q, -, rfl⟩ := List.mem_map.mp hp
    rfl
  · intro G hG
    obtain ⟨H, -, rfl⟩ := List.mem_map.mp hG
    simp only [Group.restarted]
    split <;> rfl

theorem isReady_reconfigureLine {s : State} (n : Nat) (c : LineSettings) (h : isReady s = true) :
    isReady (reconfigureLine n c (restHorns (conditionBatch s))) = true := by
  rw [isReady, time_reconfigureLine, restHorns_time, conditionBatch_eq, if_pos h]
  unfold deliverLines
  split <;> exact (isReady_chatterExpiry s).trans h

theorem settlingOk_admitted {marking : Prop} {s t : State} (hready : isReady s = true) (h : Admitted marking s t) :
    SettlingOk t := by
  cases h with
  | restart => exact settlingOk_restartEvent s
  | configureInput => exact settlingOk_of_ready (isReady_reconfigureLine _ _ hready)
  | _ => exact settlingOk_of_ready hready

/-- The timers do not run while SETTLING (R195). -/
theorem settlingOk_tickEvent {s : State} (h : SettlingOk s) (lines : BitVec 24) (keys : BitVec 4) :
    SettlingOk (tickEvent lines keys s) := by
  intro htick
  cases hdevice : s.time.device with
  | ready =>
    have hready : isReady (tickEvent lines keys s) = true := by
      simp [isReady, tickEvent, Timebase.tick, hdevice, Device.tick]
    rw [hready] at htick
    cases htick
  | settling n =>
    have hstopped : intervalRuns s.time = false := by simp [intervalRuns, hdevice]
    obtain ⟨hpoints, hshelf, hchanges, hgroups, hlease, hminute⟩ := h (by simp [isReady, hdevice])
    refine ⟨hpoints, hshelf, hchanges, hgroups, ?_, ?_⟩
    · simpa [tickEvent, Timebase.tick, hstopped] using hlease
    · simpa [tickEvent, Timebase.tick, hstopped] using hminute

theorem kept_settlingOk : Kept SettlingOk where
  within _ h := h
  reset := by decide
  admitted hready h _ := settlingOk_admitted hready h
  flags _ h := h
  removed n h hsettling := by
    obtain ⟨hpoints, hshelf, hchanges, hrest⟩ := h hsettling
    refine ⟨hpoints, hshelf, ?_, hrest⟩
    rw [State.withChanges_changes, hchanges]
    rfl
  occurs := settlingOk_occurs
  advanced h := h
  counted _ h := h
  ticked lines keys _ _ h := settlingOk_tickEvent h lines keys

end Sys2Proof.Machine
end

section
/-! The statement about SETTLING. -/

namespace Sys2Proof.Proofs
open Sys2Proof.Machine

/-- Settles O7. -/
theorem stepKeepsSettling : Obligations.StepKeepsSettling := fun _ _ hsettling h => kept_settlingOk.step h hsettling

end Sys2Proof.Proofs
end

section
/-! SUPPORT. The rows of the pins and of time, case by case (R158, R161, R178, R190, R199). -/

namespace Sys2Proof.Machine

/-- A port with a transaction in progress. -/
theorem port_of_mem_transaction {s : State} {x : Transaction} (h : x ∈ s.port.transaction) : s.port = .active x := by
  cases hport : s.port with
  | active t => rw [hport] at h; cases h; rfl
  | idle | ignoring => rw [hport] at h; cases h

/-- Either the port follows no transaction, or one is in progress with RSTN high (R158, R178). -/
theorem port_cases (s : State) : (s.rstn = false ∨ s.port.transaction = none) ∨ ∃ x, s.rstn = true ∧ s.port = .active x := by
  cases hrstn : s.rstn with
  | false => exact .inl (.inl rfl)
  | true =>
    cases s.port with
    | idle | ignoring => exact .inl (.inr rfl)
    | active x => exact .inr ⟨x, rfl, rfl⟩

theorem exec_csRise_high {s : State} (hcs : s.cs = true) : exec .csRise s = .next s := if_pos hcs

theorem exec_csRise_active {s : State} {x : Transaction} (hrstn : s.rstn = true) (hcs : s.cs = false)
    (hport : s.port = .active x) :
    exec .csRise s = .next (restHorns ((endTransaction x (s.withPins s.rstn true)).withPort .idle)) := by
  change execCsRise s = _
  simp only [execCsRise, hcs, hrstn, hport, Bool.false_eq_true, if_false]
  rfl

/-- While RSTN is low, or without a transaction in progress, CS is only followed (R178). -/
theorem exec_csRise_idle {s : State} (hcs : s.cs = false) (h : s.rstn = false ∨ s.port.transaction = none) :
    exec .csRise s = .next ((s.withPins s.rstn true).withPort .idle) := by
  change execCsRise s = _
  cases hrstn : s.rstn with
  | false => simp only [execCsRise, hcs, hrstn, Bool.false_eq_true, if_false]
  | true =>
    have hnone : s.port.transaction = none := h.resolve_left (by simp [hrstn])
    cases hport : s.port with
    | idle | ignoring => simp only [execCsRise, hcs, hrstn, hport, Bool.false_eq_true, if_false]
    | active t => rw [hport] at hnone; cases hnone

theorem exec_sck_active {s : State} {x : Transaction} (si : Bool) (hrstn : s.rstn = true) (hport : s.port = .active x) :
    exec (.sckRisingEdge si) s = .next (sckEdge si x s) := by
  change execSckRisingEdge si s = _
  simp only [execSckRisingEdge, hrstn, hport]

/-- An edge is ignored while RSTN is low and without a transaction in progress (R158, R178). -/
theorem exec_sck_ignored {s : State} (si : Bool) (h : s.rstn = false ∨ s.port.transaction = none) :
    exec (.sckRisingEdge si) s = .next s := by
  change execSckRisingEdge si s = _
  cases hrstn : s.rstn with
  | false => simp only [execSckRisingEdge, hrstn]
  | true =>
    have hnone : s.port.transaction = none := h.resolve_left (by simp [hrstn])
    cases hport : s.port with
    | idle | ignoring => simp only [execSckRisingEdge, hrstn, hport]
    | active t => rw [hport] at hnone; cases hnone

theorem exec_csFall_high {s : State} (hcs : s.cs = true) :
    exec .csFall s = .next ((s.withPins s.rstn false).withPort (if s.rstn then .active .fresh else .idle)) :=
  congrArg Host.Outcome.next (if_pos hcs)

theorem exec_csFall_low {s : State} (hcs : s.cs = false) : exec .csFall s = .next s :=
  congrArg Host.Outcome.next (if_neg (by simp [hcs]))

theorem exec_rstnRelease_high {s : State} (hrstn : s.rstn = true) : exec .rstnRelease s = .next s :=
  congrArg Host.Outcome.next (if_pos hrstn)

theorem exec_rstnRelease_low {s : State} (hrstn : s.rstn = false) :
    exec .rstnRelease s = .next (resetValues s true s.cs (if s.cs then .idle else .ignoring)) :=
  congrArg Host.Outcome.next (if_neg (by simp [hrstn]))

theorem exec_refclkPeriod {s : State} (lines : BitVec 24) (keys : BitVec 4) (hrstn : s.rstn = true) :
    exec (.refclkPeriod lines keys) s = .next (refclkPeriod lines keys s) := congrArg Host.Outcome.next (if_pos hrstn)

theorem exec_refclkPeriod_held {s : State} (lines : BitVec 24) (keys : BitVec 4) (hrstn : s.rstn = false) :
    exec (.refclkPeriod lines keys) s = .next s := congrArg Host.Outcome.next (if_neg (by simp [hrstn]))

/-- TICK is the REFCLK periods that are left of the current tick (log 4). -/
theorem exec_tick {s : State} (lines : BitVec 24) (keys : BitVec 4) (hrstn : s.rstn = true) :
    exec (.tick lines keys) s = .next (refclkPeriods lines keys (31 - s.time.prescaler + 1) s) :=
  congrArg Host.Outcome.next (if_pos hrstn)

theorem exec_tick_held {s : State} (lines : BitVec 24) (keys : BitVec 4) (hrstn : s.rstn = false) :
    exec (.tick lines keys) s = .next s := congrArg Host.Outcome.next (if_neg (by simp [hrstn]))

end Sys2Proof.Machine
end

section
/-! SUPPORT. The queue plays no part in what a command does (log 8). -/

namespace Sys2Proof.Machine

/-- The state with another queue. -/
def State.queued (s : State) (q : List Instr) : State := { s with pending := q }

/-- An outcome with another queue. -/
def requeue (q : List Instr) : Host.Outcome State Fault Refusal → Host.Outcome State Fault Refusal
  | .next t => .next (t.queued q)
  | .fault r => .fault r
  | .refused r => .refused r

theorem Inner.queued {f : State → State} (h : Inner f) (s : State) (q : List Instr) : f (s.queued q) = (f s).queued q := by
  have hself : f s = (f s).within s.surroundings := h s s.surroundings
  have hqueued : f (s.queued q) = (f s).within { s.surroundings with pending := q } :=
    h s { s.surroundings with pending := q }
  rw [hqueued, hself]
  rfl

theorem taken_queued {effect : State → Answer} (h : InnerEffect effect) (bytes : List Byte) (s : State) (q : List Instr) :
    taken bytes effect (s.queued q) = (taken bytes effect s).queued q := by
  have hself : effect s = (effect s).within s.surroundings := h s s.surroundings
  have hqueued : effect (s.queued q) = (effect s).within { s.surroundings with pending := q } :=
    h s { s.surroundings with pending := q }
  rw [taken_eq, taken_eq, hqueued, hself]
  rfl

theorem takeCommand_queued {i : Instr} {bytes : List Byte} (hb : hostBytes i = some bytes) (s : State) (q : List Instr) :
    takeCommand i (s.queued q) = (takeCommand i s).queued q := by
  rw [takeCommand_eq hb]
  exact taken_queued (innerEffect_commandEffect i) bytes s q

theorem sckEdge_queued (si : Bool) (t : Transaction) (s : State) (q : List Instr) :
    sckEdge si t (s.queued q) = (sckEdge si t s).queued q := by
  unfold sckEdge
  split
  · dsimp only
    split
    · rfl
    · unfold completeOperand
      split
      · rfl
      · next hframe =>
        obtain ⟨-, bytes, hb⟩ := decodeFrame_wellFormed hframe
        exact takeCommand_queued hb s q
  · split <;> rfl

theorem endTransaction_queued (t : Transaction) (s : State) (q : List Instr) :
    endTransaction t (s.queued q) = (endTransaction t s).queued q := by
  unfold endTransaction
  split
  · rfl
  · split <;> rfl

theorem execRow_queued {i : Instr} {f : State → State} (hi : rowEvent i = some f) (s : State) (q : List Instr) :
    exec i (s.queued q) = requeue q (exec i s) := by
  rw [exec_rowEvent hi, exec_rowEvent hi, (inner_restHorns.comp (inner_rowEvent hi)).queued]
  rfl

theorem execHost_queued {i : Instr} {bytes : List Byte} (hb : hostBytes i = some bytes) (s : State) (q : List Instr) :
    exec i (s.queued q) = requeue q (exec i s) := by
  by_cases hw : i.WellFormed
  · rw [exec_eq_atTaking hw hb, exec_eq_atTaking hw hb]
    by_cases hopen : PortOpen s
    · rw [atTaking_open hopen, atTaking_open (s := s.queued q) hopen, takeCommand_queued hb]
      rfl
    · rw [atTaking_closed hopen, atTaking_closed (s := s.queued q) hopen]
      rfl
  · rw [exec_illFormed hw, exec_illFormed hw]
    rfl

theorem execCsRise_queued (s : State) (q : List Instr) : exec .csRise (s.queued q) = requeue q (exec .csRise s) := by
  cases hcs : s.cs with
  | true =>
    rw [exec_csRise_high hcs, exec_csRise_high (s := s.queued q) hcs]
    rfl
  | false =>
    rcases port_cases s with hclosed | ⟨x, hrstn, hport⟩
    · rw [exec_csRise_idle hcs hclosed, exec_csRise_idle (s := s.queued q) hcs hclosed]
      rfl
    · rw [exec_csRise_active hrstn hcs hport, exec_csRise_active (s := s.queued q) hrstn hcs hport]
      exact congrArg (fun u => done (u.withPort .idle)) (endTransaction_queued x (s.withPins s.rstn true) q)

theorem execSck_queued (si : Bool) (s : State) (q : List Instr) :
    exec (.sckRisingEdge si) (s.queued q) = requeue q (exec (.sckRisingEdge si) s) := by
  rcases port_cases s with hclosed | ⟨x, hrstn, hport⟩
  · rw [exec_sck_ignored si hclosed, exec_sck_ignored (s := s.queued q) si hclosed]
    rfl
  · rw [exec_sck_active si hrstn hport, exec_sck_active (s := s.queued q) si hrstn hport, sckEdge_queued]
    rfl

/-- A command does the same with another queue, and leaves that queue. -/
theorem exec_queued (i : Instr) (s : State) (q : List Instr) : exec i (s.queued q) = requeue q (exec i s) := by
  cases i with
  | csFall =>
    cases hcs : s.cs with
    | true => rw [exec_csFall_high hcs, exec_csFall_high (s := s.queued q) hcs]; rfl
    | false => rw [exec_csFall_low hcs, exec_csFall_low (s := s.queued q) hcs]; rfl
  | csRise => exact execCsRise_queued s q
  | pinReset => rfl
  | rstnRelease =>
    cases hrstn : s.rstn with
    | true => rw [exec_rstnRelease_high hrstn, exec_rstnRelease_high (s := s.queued q) hrstn]; rfl
    | false => rw [exec_rstnRelease_low hrstn, exec_rstnRelease_low (s := s.queued q) hrstn]; rfl
  | tick lines keys =>
    cases hrstn : s.rstn with
    | true =>
      rw [exec_tick lines keys hrstn, exec_tick (s := s.queued q) lines keys hrstn, (inner_refclkPeriods lines keys _).queued]
      rfl
    | false => rw [exec_tick_held lines keys hrstn, exec_tick_held (s := s.queued q) lines keys hrstn]; rfl
  | refclkPeriod lines keys =>
    cases hrstn : s.rstn with
    | true =>
      rw [exec_refclkPeriod lines keys hrstn, exec_refclkPeriod (s := s.queued q) lines keys hrstn,
        (inner_refclkPeriod lines keys).queued]
      rfl
    | false => rw [exec_refclkPeriod_held lines keys hrstn, exec_refclkPeriod_held (s := s.queued q) lines keys hrstn]; rfl
  | sckRisingEdge si => exact execSck_queued si s q
  | conditionBatch | keyAction | chatterWindowExpiry | leaseExpiry | minuteExpiry | wrap | frameBoundary | warmUpEnd | gapEnd
  | settleEnd | halfWaveEnd => exact execRow_queued rfl s q
  | _ => exact execHost_queued rfl s q

end Sys2Proof.Machine
end

section
/-! The statements about the step and the queue. -/

namespace Sys2Proof.Proofs
open Sys2Proof.Machine

/-- Settles O1. -/
theorem stepTakesFrontCommand : Obligations.StepTakesFrontCommand := fun _ _ _ => ⟨rfl, rfl⟩

/-- Settles O2: with its own queue put back, the state that a command leaves is the same, so it has that queue. -/
theorem queuePlaysNoPart : Obligations.QueuePlaysNoPart := by
  intro i s t queue h
  have hsame : exec i s = requeue s.pending (exec i s) := exec_queued i s s.pending
  have hother : exec i (s.queued queue) = requeue queue (exec i s) := exec_queued i s queue
  rw [h] at hsame hother
  have ht : t = t.queued s.pending := Host.Outcome.next.inj hsame
  refine ⟨?_, hother⟩
  rw [ht]
  rfl

/-- Settles O3: a host command is a taking or has no effect, and every other row answers a next state. -/
theorem onlyIllFormedTermsStop : Obligations.OnlyIllFormedTermsStop := by
  intro i s
  refine ⟨fun hw => ?_, fun hill => exec_illFormed hill s⟩
  have hhost {bytes : List Byte} (hb : hostBytes i = some bytes) : ∃ t, exec i s = .next t :=
    ⟨_, exec_eq_atTaking hw hb s⟩
  cases i with
  | csRise =>
    cases hcs : s.cs with
    | true => exact ⟨s, exec_csRise_high hcs⟩
    | false =>
      rcases port_cases s with hclosed | ⟨x, hrstn, hport⟩
      · exact ⟨_, exec_csRise_idle hcs hclosed⟩
      · exact ⟨_, exec_csRise_active hrstn hcs hport⟩
  | sckRisingEdge si =>
    rcases port_cases s with hclosed | ⟨x, hrstn, hport⟩
    · exact ⟨s, exec_sck_ignored si hclosed⟩
    · exact ⟨_, exec_sck_active si hrstn hport⟩
  | csFall | pinReset | rstnRelease | tick | refclkPeriod | conditionBatch | keyAction | chatterWindowExpiry | leaseExpiry
  | minuteExpiry | wrap | frameBoundary | warmUpEnd | gapEnd | settleEnd | halfWaveEnd => exact ⟨_, rfl⟩
  | _ => exact hhost rfl

end Sys2Proof.Proofs
end

section
/-! SUPPORT. While RSTN is low every block holds its reset values (R198). -/

namespace Sys2Proof.Machine

/-- The part while RSTN is low. -/
def heldState (cs : Bool) (q : List Instr) : State := { State.reset with rstn := false, cs := cs, pending := q }

theorem held_eq {s : State} (h : HeldInReset s) (hlow : s.rstn = false) : s = heldState s.cs s.pending := h hlow

theorem heldInReset_heldState (cs : Bool) (q : List Instr) : HeldInReset (heldState cs q) := fun _ => rfl

/-- No event is due at the reset values. -/
theorem restHorns_rowEvent_reset {i : Instr} {f : State → State} (h : rowEvent i = some f) :
    restHorns (f State.reset) = State.reset := by
  cases i with
  | keyAction k => cases h; cases k <;> rfl
  | halfWaveEnd x => cases h; cases x <;> rfl
  | _ => cases h <;> rfl

theorem execRow_held {i : Instr} {f : State → State} (h : rowEvent i = some f) (cs : Bool) (q : List Instr) :
    exec i (heldState cs q) = .next (heldState cs q) := by
  have hreset : heldState cs q = State.reset.within { rstn := false, cs := cs, port := .idle, pending := q } := rfl
  have hsame (e : Surroundings) : restHorns (f (State.reset.within e)) = (restHorns (f State.reset)).within e :=
    (inner_restHorns.comp (inner_rowEvent h)) State.reset e
  rw [exec_rowEvent h, hreset, hsame, restHorns_rowEvent_reset h]

theorem execHost_held {i : Instr} {bytes : List Byte} (hw : i.WellFormed) (hb : hostBytes i = some bytes) (cs : Bool)
    (q : List Instr) : exec i (heldState cs q) = .next (heldState cs q) := by
  rw [exec_eq_atTaking hw hb]
  exact atTaking_closed (fun hopen => by cases hopen.1) _

/-- While RSTN is low a command that is not its release leaves the part held; only the level of CS follows (log 19). -/
theorem exec_held {i : Instr} {cs : Bool} {q : List Instr} {t : State} (hi : i ≠ .rstnRelease)
    (h : exec i (heldState cs q) = .next t) : ∃ cs', t = heldState cs' q := by
  have hhost {bytes : List Byte} (hb : hostBytes i = some bytes) : ∃ cs', t = heldState cs' q := by
    cases (execHost_held (wellFormed_of_exec h) hb cs q).symm.trans h
    exact ⟨cs, rfl⟩
  have hrow {f : State → State} (hf : rowEvent i = some f) : ∃ cs', t = heldState cs' q := by
    cases (execRow_held hf cs q).symm.trans h
    exact ⟨cs, rfl⟩
  cases i with
  | csFall =>
    cases h
    cases cs <;> exact ⟨false, rfl⟩
  | csRise =>
    cases cs with
    | true => cases h; exact ⟨true, rfl⟩
    | false =>
      cases (exec_csRise_idle (s := heldState false q) rfl (.inl rfl)).symm.trans h
      exact ⟨true, rfl⟩
  | pinReset => cases h; exact ⟨cs, rfl⟩
  | rstnRelease => exact absurd rfl hi
  | tick | refclkPeriod => cases h; exact ⟨cs, rfl⟩
  | sckRisingEdge => cases h; exact ⟨cs, rfl⟩
  | conditionBatch | keyAction | chatterWindowExpiry | leaseExpiry | minuteExpiry | wrap | frameBoundary | warmUpEnd | gapEnd
  | settleEnd | halfWaveEnd => exact hrow rfl
  | _ => exact hhost rfl

theorem rstn_takeCommand {i : Instr} {bytes : List Byte} (hb : hostBytes i = some bytes) (s : State) :
    (takeCommand i s).rstn = s.rstn := by
  rw [takeCommand_eq hb]
  exact congrArg Surroundings.rstn (surroundings_taken (innerEffect_commandEffect i) bytes s)

theorem rstn_sckEdge (si : Bool) (t : Transaction) (s : State) : (sckEdge si t s).rstn = s.rstn := by
  unfold sckEdge
  split
  · dsimp only
    split
    · rfl
    · unfold completeOperand
      split
      · rfl
      · next hframe =>
        obtain ⟨-, bytes, hb⟩ := decodeFrame_wellFormed hframe
        exact rstn_takeCommand hb s
  · split <;> rfl

theorem rstn_endTransaction {s : State} (h : s.rstn = true) (t : Transaction) : (endTransaction t s).rstn = true := by
  unfold endTransaction
  split
  · exact h
  · split
    · exact h
    · exact h
    · rfl
    · exact h

/-- RSTN falls with a pin reset only. -/
theorem exec_rstn_high {i : Instr} {s t : State} (hi : i ≠ .pinReset) (hs : s.rstn = true) (h : exec i s = .next t) :
    t.rstn = true := by
  have hhost {bytes : List Byte} (hb : hostBytes i = some bytes) : t.rstn = true := by
    rw [exec_eq_atTaking (wellFormed_of_exec h) hb] at h
    cases h
    split
    · rw [rstn_takeCommand hb, hs]
    · exact hs
  have hrow {f : State → State} (hf : rowEvent i = some f) : t.rstn = true := by
    cases (exec_rowEvent hf s).symm.trans h
    rw [restHorns_rstn, (inner_rowEvent hf).rstn, hs]
  cases i with
  | csFall => cases h; split <;> exact hs
  | csRise =>
    cases hcs : s.cs with
    | true => cases (exec_csRise_high hcs).symm.trans h; exact hs
    | false =>
      rcases port_cases s with hclosed | ⟨x, hrstn, hport⟩
      · cases (exec_csRise_idle hcs hclosed).symm.trans h; exact hs
      · cases (exec_csRise_active hrstn hcs hport).symm.trans h; exact rstn_endTransaction (s := s.withPins s.rstn true) hs x
  | pinReset => exact absurd rfl hi
  | rstnRelease => cases (exec_rstnRelease_high hs).symm.trans h; exact hs
  | tick lines keys =>
    cases (exec_tick lines keys hs).symm.trans h
    rw [(inner_refclkPeriods lines keys _).rstn, hs]
  | refclkPeriod lines keys =>
    cases (exec_refclkPeriod lines keys hs).symm.trans h
    rw [(inner_refclkPeriod lines keys).rstn, hs]
  | sckRisingEdge si =>
    rcases port_cases s with hclosed | ⟨x, hrstn, hport⟩
    · cases (exec_sck_ignored si hclosed).symm.trans h; exact hs
    · cases (exec_sck_active si hrstn hport).symm.trans h; rw [rstn_sckEdge, hs]
  | conditionBatch | keyAction | chatterWindowExpiry | leaseExpiry | minuteExpiry | wrap | frameBoundary | warmUpEnd | gapEnd
  | settleEnd | halfWaveEnd => exact hrow rfl
  | _ => exact hhost rfl

end Sys2Proof.Machine
end

section
/-! The statements about reset. -/

namespace Sys2Proof.Proofs
open Sys2Proof.Machine

/-- Settles O4, block by block of R198. -/
theorem pinResetAndRelease : Obligations.PinResetAndRelease := by
  intro s
  refine ⟨?reset, ?release, exec_rstnRelease_high⟩
  case reset =>
    refine ⟨_, rfl, rfl, rfl, rfl, rfl, rfl, rfl, rfl, rfl, ?groups, rfl, ?lines, ?keys, rfl, ?horns, rfl, rfl, rfl, rfl, rfl⟩
    case groups =>
      change ∀ G ∈ State.reset.groups, _
      decide
    case lines =>
      change ∀ L ∈ State.reset.lines, _
      decide
    case keys =>
      change ∀ K ∈ [State.reset.keys.ack, State.reset.keys.silence, State.reset.keys.clear, State.reset.keys.test], _
      decide
    case horns =>
      change ∀ h ∈ [HornId.horn1, HornId.horn2], State.reset.output.horn h = _
      decide
  case release =>
    intro hheld hlow
    rw [exec_rstnRelease_low hlow]
    have hs := held_eq hheld hlow
    generalize s.cs = cs, s.pending = q at hs ⊢
    subst hs
    rfl

/-- Settles O5: a held part stays held and its outputs are those of the reset values; RSTN falls only by a pin reset, which
brings those values. -/
theorem heldWhileRstnLow : Obligations.HeldWhileRstnLow := by
  intro i s t hheld h
  cases hlow : s.rstn with
  | true =>
    refine ⟨?_, nofun⟩
    by_cases hi : i = .pinReset
    · subst hi
      cases h
      exact heldInReset_heldState s.cs s.pending
    · intro ht
      rw [exec_rstn_high hi hlow h] at ht
      cases ht
  | false =>
    by_cases hi : i = .rstnRelease
    · subst hi
      refine ⟨?_, fun _ hne => absurd rfl hne⟩
      cases (exec_rstnRelease_low hlow).symm.trans h
      exact nofun
    · rw [held_eq hheld hlow] at h
      obtain ⟨cs, rfl⟩ := exec_held hi h
      exact ⟨heldInReset_heldState cs s.pending, fun _ _ => ⟨rfl, rfl, rfl, rfl, rfl, rfl, fun _ => rfl⟩⟩

/-- Settles O12. -/
theorem invariantsHoldAtReset : Obligations.InvariantsHoldAtReset :=
  ⟨⟨by decide, by decide, by decide, by decide⟩, kept_settlingOk.reset, kept_linesOk.reset, kept_keysOk.reset, kept_timeOk.reset,
    by decide, by decide, by decide, by decide, nofun⟩

end Sys2Proof.Proofs
end

section
/-! SUPPORT. The transaction: its edges, its taking, and its end (R158 to R164, R169, R174). -/

namespace Sys2Proof.Machine

/-! ### The taking -/

/-- A taking is the same whatever the port held before it. -/
theorem takeCommand_withPort {i : Instr} {bytes : List Byte} (hb : hostBytes i = some bytes) (s : State) (p : Port) :
    takeCommand i (s.withPort p) = takeCommand i s := by
  have hself : commandEffect i s = (commandEffect i s).within s.surroundings := innerEffect_commandEffect i s s.surroundings
  have hport : commandEffect i (s.withPort p) = (commandEffect i s).within { s.surroundings with port := p } :=
    innerEffect_commandEffect i s { s.surroundings with port := p }
  rw [takeCommand_eq hb, taken_eq, taken_eq, hport, hself]
  rfl

/-- The row of a host command, where a transaction has just begun. -/
theorem exec_fresh {i : Instr} {bytes : List Byte} (hw : i.WellFormed) (hb : hostBytes i = some bytes) {s : State}
    (hrstn : s.rstn = true) : exec i (s.withPort (.active .fresh)) = .next (takeCommand i s) := by
  rw [exec_eq_atTaking hw hb, atTaking_open (s := s.withPort (.active .fresh)) ⟨hrstn, rfl⟩, takeCommand_withPort hb]

/-- Every known command but READ-STATUS and RESET-DEVICE is one that only READY admits (R164). -/
theorem commandEffect_unlessBusy {i : Instr} {bytes : List Byte} (hb : hostBytes i = some bytes) (hstatus : i ≠ .readStatus)
    (hreset : i ≠ .resetDevice) (hknown : ∀ c, i ≠ .unknownCommand c) : ∃ effect, commandEffect i = unlessBusy effect := by
  cases i with
  | readStatus => exact absurd rfl hstatus
  | resetDevice => exact absurd rfl hreset
  | unknownCommand c => exact absurd rfl (hknown c)
  | _ => cases hb <;> exact ⟨_, rfl⟩

/-! ### One SCK edge -/

/-- The bits of a position with one more bit of SI (R158). -/
theorem shift_or_eq (x : Byte) (si : Bool) : (x <<< 1) ||| BitVec.ofNat 8 si.toNat = BitVec.ofNat 8 (2 * x.toNat + si.toNat) := by
  have hbit : si.toNat < 2 ^ 1 := Nat.lt_succ_of_le si.toNat_le
  have hor : 2 * (x.toNat % 128) ||| si.toNat = 2 * (x.toNat % 128) + si.toNat :=
    (Nat.two_pow_add_eq_or_of_lt hbit (x.toNat % 128)).symm
  have hshift : (x <<< 1).toNat = 2 * (x.toNat % 128) := by
    rw [BitVec.toNat_shiftLeft, Nat.shiftLeft_eq]
    omega
  have hsmall : (BitVec.ofNat 8 si.toNat).toNat = si.toNat := toNat_byteOf (by omega)
  apply BitVec.eq_of_toNat_eq
  rw [BitVec.toNat_or, hshift, hsmall, hor, BitVec.toNat_ofNat]
  omega

theorem sckEdge_shift {x : Transaction} (si : Bool) (s : State) (hreply : x.reply = none) (hedges : x.edges < 7) :
    sckEdge si x s =
      s.withPort (.active { x with shift := BitVec.ofNat 8 (2 * x.shift.toNat + si.toNat), edges := x.edges + 1 }) := by
  unfold sckEdge
  rw [hreply]
  dsimp only
  rw [if_pos (Nat.succ_lt_succ hedges), shift_or_eq]

theorem sckEdge_complete {x : Transaction} (si : Bool) (s : State) (hreply : x.reply = none) (hedges : 7 ≤ x.edges) :
    sckEdge si x s = completeOperand (BitVec.ofNat 8 (2 * x.shift.toNat + si.toNat)) x s := by
  unfold sckEdge
  rw [hreply]
  dsimp only
  rw [if_neg (by omega), shift_or_eq]

theorem sckEdge_replied {x : Transaction} (si : Bool) (s : State) (hreply : x.reply ≠ none) (hedges : x.edges < 7) :
    sckEdge si x s = s.withPort (.active { x with edges := x.edges + 1 }) := by
  obtain ⟨reply, hreply⟩ := Option.ne_none_iff_exists'.mp hreply
  unfold sckEdge
  rw [hreply]
  exact if_pos (Nat.succ_lt_succ hedges)

theorem sckEdge_replied_complete {x : Transaction} (si : Bool) (s : State) (hreply : x.reply ≠ none) (hedges : 7 ≤ x.edges) :
    sckEdge si x s = s.withPort (.active { x with edges := 0, positions := x.positions + 1 }) := by
  obtain ⟨reply, hreply⟩ := Option.ne_none_iff_exists'.mp hreply
  unfold sckEdge
  rw [hreply]
  exact if_neg (by omega)

theorem completeOperand_incomplete {b : Byte} {x : Transaction} (h : decodeFrame (x.received ++ [b]) = .incomplete) (s : State) :
    completeOperand b x s =
      s.withPort (.active
        { received := x.received ++ [b], shift := 0, edges := 0, positions := x.positions + 1, reply := none }) := by
  unfold completeOperand
  rw [h]

theorem completeOperand_command {b : Byte} {x : Transaction} {i : Instr} (h : decodeFrame (x.received ++ [b]) = .command i)
    (s : State) : completeOperand b x s = takeCommand i s := by
  unfold completeOperand
  rw [h]

/-! ### The end of a transaction -/

/-- The state with CS high and the transaction discarded (R161). -/
def State.ended (s : State) : State := { s with cs := true, port := .idle }

theorem wavesOk_ended {s : State} (h : WavesOk s) : WavesOk s.ended := h

/-- The CS rise, where the end of the transaction does nothing that the horns read. -/
theorem exec_csRise_of_end {s u : State} {x : Transaction} (hrstn : s.rstn = true) (hcs : s.cs = false)
    (hx : x ∈ s.port.transaction) (hend : (endTransaction x (s.withPins s.rstn true)).withPort .idle = u) (hwaves : WavesOk u) :
    exec .csRise s = .next u := by
  rw [exec_csRise_active hrstn hcs (port_of_mem_transaction hx), hend, restHorns_of_wavesOk hwaves]

theorem endTransaction_truncated {x : Transaction} (h : x.reply = none) (s : State) :
    endTransaction x s = s.withFlags { s.flags with truncated := .raised } := by
  unfold endTransaction
  rw [h]

/-- The end of a transaction of any other command than READ-STATUS, READ-CHANGES and RESET-DEVICE (R161). -/
theorem endTransaction_other {x : Transaction} (h : x.reply ≠ none) (h1 : x.received.head? ≠ some 0x01)
    (h2 : x.received.head? ≠ some 0x02) (h9 : x.received.head? ≠ some 0x09) (s : State) : endTransaction x s = s := by
  obtain ⟨reply, hreply⟩ := Option.ne_none_iff_exists'.mp h
  unfold endTransaction
  rw [hreply]
  dsimp only
  split
  · next hreceived => exact absurd (by rw [hreceived]; rfl) h1
  · next hreceived => exact absurd (by rw [hreceived]; rfl) h2
  · next hreceived => exact absurd (by rw [hreceived]; rfl) h9
  · rfl

theorem endTransaction_readStatus {x : Transaction} (h : x.reply ≠ none) (hreceived : x.received = [0x01]) (s : State) :
    endTransaction x s = s.withFlags (s.flags.each (.acknowledged (decide (3 ≤ x.positions)))) := by
  obtain ⟨reply, hreply⟩ := Option.ne_none_iff_exists'.mp h
  unfold endTransaction
  rw [hreply, hreceived]
  rfl

theorem endTransaction_readChanges {x : Transaction} {m : Byte} (h : x.reply ≠ none) (hreceived : x.received = [0x02, m])
    (s : State) : endTransaction x s = s.withChanges (settleEntries x.positions 0 s.changes) := by
  obtain ⟨reply, hreply⟩ := Option.ne_none_iff_exists'.mp h
  unfold endTransaction
  rw [hreply, hreceived]
  rfl

theorem endTransaction_resetDevice {x : Transaction} (h : x.reply ≠ none) (hreceived : x.received = [0x09]) (s : State) :
    endTransaction x s = deviceReset s := by
  obtain ⟨reply, hreply⟩ := Option.ne_none_iff_exists'.mp h
  unfold endTransaction
  rw [hreply, hreceived]
  rfl

/-- A flag that READ-STATUS reported (R169). -/
theorem acknowledged_eq (read : Bool) (f : StickyFlag) : f.acknowledged read = flagAfterRead read f := by
  obtain ⟨isSet, reported⟩ := f
  cases read <;> cases isSet <;> cases reported <;> rfl

/-- The entries that the CS rise of a READ-CHANGES keeps, counted from `i` (R174). -/
theorem settleEntries_eq (positions i : Nat) (es : List ChangeEntry) :
    settleEntries positions i es =
      ((es.zipIdx i).filter fun e => !(e.1.inFlight && decide (2 * (e.2 + 1) + 4 ≤ positions))).map fun e =>
        { point := e.1.point, inFlight := false } := by
  induction es generalizing i with
  | nil => rfl
  | cons e es ih =>
    rw [settleEntries, List.zipIdx_cons]
    by_cases hread : e.inFlight ∧ 2 * i + 6 ≤ positions
    · have hgone : (!(e.inFlight && decide (2 * (i + 1) + 4 ≤ positions))) = false := by
        obtain ⟨hmark, hle⟩ := hread
        simp [hmark]
        omega
      simp only [if_pos hread, List.filter_cons, hgone, Bool.false_eq_true, if_false, ih]
    · have hstays : (!(e.inFlight && decide (2 * (i + 1) + 4 ≤ positions))) = true := by
        cases hmark : e.inFlight with
        | false => rfl
        | true =>
          have hlt : ¬ 2 * i + 6 ≤ positions := fun hle => hread ⟨hmark, hle⟩
          simp
          omega
      simp only [if_neg hread, List.filter_cons, hstays, if_true, List.map_cons, ih]

end Sys2Proof.Machine
end

section
/-! The statements about the transaction. -/

namespace Sys2Proof.Proofs
open Sys2Proof.Machine

/-- Settles O15: BUSY comes before every check, and a closed port takes nothing. -/
theorem hostCommandsGated : Obligations.HostCommandsGated := by
  intro i s bytes hw hb
  have hexec : exec i s = atTaking (taken bytes (commandEffect i)) s := by rw [exec_eq_atTaking hw hb, takeCommand_eq hb]
  refine ⟨fun hopen hwaves hsettling hstatus hreset hknown => ?_, fun hclosed => ?_⟩
  · obtain ⟨effect, heffect⟩ := commandEffect_unlessBusy hb hstatus hreset hknown
    exact exec_busy (heffect ▸ hexec) hopen hsettling hwaves
  · rw [hexec, atTaking_closed hclosed]

/-- Settles O16, edge by edge. -/
theorem transactionEdges : Obligations.TransactionEdges := by
  intro s si
  refine ⟨exec_csFall_high, exec_csFall_low, exec_sck_ignored si, fun x hx hrstn => ?_⟩
  have hport := port_of_mem_transaction hx
  rw [exec_sck_active si hrstn hport]
  refine ⟨?shift, ?incomplete, ?taking, ?replied, ?complete⟩
  case shift =>
    intro hreply hedges
    rw [sckEdge_shift si s hreply hedges]
    rfl
  case incomplete =>
    intro hreply hedges hframe
    rw [sckEdge_complete si s hreply hedges, completeOperand_incomplete hframe]
  case taking =>
    intro i hi hreply hedges
    have hframe : decodeFrame (x.received ++ [BitVec.ofNat 8 (2 * x.shift.toNat + si.toNat)]) = .command i := by
      cases hd : decodeFrame (x.received ++ [BitVec.ofNat 8 (2 * x.shift.toNat + si.toNat)]) with
      | incomplete => rw [hd] at hi; cases hi
      | command j => rw [hd] at hi; cases hi; rfl
    obtain ⟨hw, bytes, hb⟩ := decodeFrame_wellFormed hframe
    rw [sckEdge_complete si s hreply hedges, completeOperand_command hframe]
    exact (exec_fresh hw hb hrstn).symm
  case replied =>
    intro hreply hedges
    rw [sckEdge_replied si s hreply hedges]
    rfl
  case complete =>
    intro hreply hedges
    rw [sckEdge_replied_complete si s hreply hedges]
    rfl

/-- Settles O17. -/
theorem csRiseEndsTransaction : Obligations.CsRiseEndsTransaction := by
  intro s hwaves
  refine ⟨exec_csRise_high, exec_csRise_idle, fun x hx hcs hrstn => ⟨fun hreply => ?_, fun hreply h1 h2 h9 => ?_⟩⟩
  · exact exec_csRise_of_end hrstn hcs hx (by rw [endTransaction_truncated hreply]; rfl) (wavesOk_ended hwaves)
  · exact exec_csRise_of_end hrstn hcs hx (by rw [endTransaction_other hreply h1 h2 h9]; rfl) (wavesOk_ended hwaves)

/-- Settles O18. -/
theorem csRiseClearsReportedFlags : Obligations.CsRiseClearsReportedFlags := by
  intro s hwaves hrstn hcs x hx hreceived hreply
  refine exec_csRise_of_end hrstn hcs hx ?_ (wavesOk_ended hwaves)
  rw [endTransaction_readStatus hreply hreceived]
  simp only [StickyFlags.each, acknowledged_eq]
  rfl

/-- Settles O19, by the recursion down the change list. -/
theorem csRiseRemovesReadEntries : Obligations.CsRiseRemovesReadEntries := by
  intro s hwaves hrstn hcs x hx hcode hlength hreply
  obtain ⟨m, hreceived⟩ : ∃ m, x.received = [0x02, m] := by
    obtain ⟨c, m, hreceived⟩ := List.length_eq_two.mp hlength
    rw [hreceived] at hcode
    cases hcode
    exact ⟨m, hreceived⟩
  refine exec_csRise_of_end hrstn hcs hx ?_ (wavesOk_ended hwaves)
  rw [endTransaction_readChanges hreply hreceived, settleEntries_eq]
  rfl

/-- Settles O20: the taking has no effect, and the reset values come with the CS rise. -/
theorem resetDevice : Obligations.ResetDevice := by
  intro s
  refine ⟨fun hopen hwaves => exec_of_effect rfl hopen rfl hwaves, fun x hx hrstn hcs hreceived hreply => ?_⟩
  refine exec_csRise_of_end hrstn hcs hx (by rw [endTransaction_resetDevice hreply hreceived]; rfl) ?_
  exact (by decide : WavesOk State.reset)

/-- Settles O24. -/
theorem unknownCommandCode : Obligations.UnknownCommandCode := by
  intro s code hunknown hopen hcs hwaves
  have hexec : exec (.unknownCommand code) s = atTaking (taken [code] unknownCode) s := by
    have hw : (Instr.unknownCommand code).WellFormed := decide_eq_true hunknown
    rw [exec_eq_atTaking hw rfl]
    rfl
  refine ⟨_, exec_of_effect hexec hopen rfl hwaves, rfl, ?_⟩
  have hnot {c : Byte} (hknown : arity c ≠ none) : [code].head? ≠ some c := by
    rintro ⟨rfl⟩
    exact hknown hunknown
  refine exec_csRise_of_end hopen.1 hcs rfl ?_ (wavesOk_ended hwaves)
  rw [endTransaction_other (by simp) (hnot (by decide)) (hnot (by decide)) (hnot (by decide))]
  rfl

end Sys2Proof.Proofs
end

section
/-! SUPPORT. What an event does to one point: the record that the tables of 02 and 05 give, what the event reports of it, and
the rules that the record keeps (R24 to R34, R88, R89). -/

namespace Sys2Proof.Machine

/-! ### A point moved to a state -/

@[simp] theorem Point.movesTo_defn (p : Point) (st : PointState) : (p.movesTo st).defn = p.defn := by
  unfold Point.movesTo; split <;> rfl
@[simp] theorem Point.movesTo_state (p : Point) (st : PointState) : (p.movesTo st).state = st := by
  unfold Point.movesTo
  split
  · next h => exact h
  · rfl
@[simp] theorem Point.movesTo_condition (p : Point) (st : PointState) : (p.movesTo st).run.condition = p.run.condition := by
  unfold Point.movesTo; split <;> rfl
@[simp] theorem Point.movesTo_asserted (p : Point) (st : PointState) : (p.movesTo st).run.asserted = p.run.asserted := by
  unfold Point.movesTo; split <;> rfl
@[simp] theorem Point.movesTo_age (p : Point) (st : PointState) : (p.movesTo st).run.age = p.run.age := by
  unfold Point.movesTo; split <;> rfl
@[simp] theorem Point.movesTo_stale (p : Point) (st : PointState) : (p.movesTo st).run.stale = p.run.stale := by
  unfold Point.movesTo; split <;> rfl
theorem Point.movesTo_self (p : Point) : p.movesTo p.state = p := if_pos rfl

/-- The state that an arrival leaves a point in (R24). -/
def stateAfter (a : Arrival) (p : Point) : PointState := (respond p.defn.sequence p.run.condition p.state a).getD p.state

/-- An arrival moves the point to the state it leads to, if any (R24, R31). -/
theorem arrive_point (a : Arrival) (p : Point) : (arrive a p).point = p.movesTo (stateAfter a p) := by
  unfold stateAfter
  cases h : respond p.defn.sequence p.run.condition p.state a with
  | none => rw [arrive_point_of_respond_none h, Option.getD_none, Point.movesTo_self]
  | some st =>
    have hne : p.state ≠ st := (respond_ne _ _ _ _ _ h).symm
    rw [arrive_point_of_respond_some h, Option.getD_some, Point.movesTo, if_neg hne]

theorem arrive_state (a : Arrival) (p : Point) : (arrive a p).point.state = stateAfter a p := by
  rw [arrive_point, Point.movesTo_state]

/-! ### The tables, arrival by arrival -/

theorem arrive_ack (p : Point) : (arrive .ack p).point = afterAck p := by
  rw [arrive_point, afterAck, stateAfter]
  cases p.state <;> cases p.defn.sequence <;> rfl

theorem arrive_clr (p : Point) : (arrive .clr p).point = afterClr p := by
  rw [arrive_point, afterClr, stateAfter]
  cases p.state <;> cases p.defn.sequence <;> rfl

theorem arrive_abn (p : Point) : (arrive .abn p).point = afterAbn p := by
  rw [arrive_point, afterAbn, stateAfter]
  cases p.state <;> cases p.defn.sequence <;> rfl

theorem arrive_nrm (p : Point) : (arrive .nrm p).point = afterNrm p := by
  rw [arrive_point, afterNrm, stateAfter]
  cases p.state <;> cases p.defn.sequence <;> rfl

theorem arrive_shelve (p : Point) : (arrive .shelve p).point = afterShelve p := by
  rw [arrive_point, afterShelve, stateAfter]
  cases p.state <;> rfl

theorem arrive_unshelve (p : Point) : (arrive .unshelve p).point = afterUnshelve p := by
  by_cases h : p.state = .shelved
  · rw [arrive_point, afterUnshelve, stateAfter, if_pos h, h]
    rfl
  · have hnone : respond p.defn.sequence p.run.condition p.state .unshelve = none := by
      cases hst : p.state with
      | shelved => exact absurd hst h
      | normal | alert | acked | cleared | returned | hold => rfl
    rw [arrive_point_of_respond_none hnone, afterUnshelve, if_neg h]

/-- A delivered condition moves the point as the tables say (R8). -/
theorem takeCondition_point (c : Condition) (p : Point) : (takeCondition c p).point = afterCondition c p := by
  by_cases h : p.run.condition = c
  · rw [takeCondition_same h, afterCondition.eq_def, if_pos h]
    rfl
  · rw [takeCondition_new h, afterCondition.eq_def, if_neg h]
    cases c with
    | normal => exact arrive_nrm _
    | abnormal => exact arrive_abn _

theorem takeAgeing_point (v : Condition) (n : Nat) (b : Bool) (p : Point) :
    (takeAgeing v n b p).point = afterAgeing v n b p := takeCondition_point _ _

theorem refresh_point (p : Point) : (refresh p).point = afterRefresh p := by
  unfold refresh afterRefresh
  split
  · exact takeAgeing_point ..
  · rfl

theorem ageByOne_point (p : Point) : (ageByOne p).point = afterLeaseExpiry p := by
  have hstale : (p.run.age + 1 == 3) = decide (p.run.age = 2) := by
    rw [Bool.eq_iff_iff, beq_iff_eq, decide_eq_true_iff]
    omega
  unfold ageByOne afterLeaseExpiry
  simp only [Config.staleAge, hstale]
  split
  · exact takeAgeing_point ..
  · rfl

theorem takeLineState_point (s : State) (p : Point) : (takeLineState s p).point = afterLineState s p := by
  unfold takeLineState afterLineState
  cases p.defn.source with
  | line n => exact takeCondition_point ..
  | host => rfl

/-- The state that a batch of the lines delivers for line `n` is that of the first line of this number with a new state. -/
theorem state_batchOf (ls : List Line) (n : Nat) :
    (batchOf ls).state n =
      (ls.find? fun L => L.number == n && qualifiedByMode L != L.handed).map fun L => qualifiedByMode L := by
  rw [Batch.state, batchOf, List.find?_map, List.find?_filter, Option.map_map]
  simp only [Function.comp_def, qualifiedByMode_eq]
  congr 2
  funext L
  rw [Bool.eq_iff_iff, decide_eq_true_iff, Bool.and_eq_true, and_comm]

theorem takeBatch_point (ls : List Line) (p : Point) : (takeBatch (batchOf ls) p).point = afterBatch ls p := by
  unfold takeBatch afterBatch
  cases p.defn.source with
  | host => rfl
  | line n =>
    simp only [state_batchOf]
    cases ls.find? fun L => L.number == n && qualifiedByMode L != L.handed with
    | none => rfl
    | some L => exact takeCondition_point ..

/-! ### What an event reports of a point -/

/-- `m` says truly what became of `p`: the record keeps its number, and the marks say whether its state changed, whether it
entered ALERT, and whether its state or its stale flag changed (R31 to R33). -/
structure Moved.Reports (m : Moved) (p : Point) : Prop where
  number : m.point.number = p.number
  changed : m.changed = true ↔ m.point.state ≠ p.state
  alert : m.alert = true ↔ p.state ≠ .alert ∧ m.point.state = .alert
  post : m.post = true ↔ m.point.state ≠ p.state ∨ m.point.run.stale ≠ p.run.stale

/-- Only the number, the state and the stale flag of the record before the event count. -/
theorem Moved.Reports.of_agree {m : Moved} {p q : Point} (h : m.Reports q) (hnumber : q.number = p.number)
    (hstate : q.state = p.state) (hstale : q.run.stale = p.run.stale) : m.Reports p := by
  obtain ⟨h1, h2, h3, h4⟩ := h
  rw [hnumber] at h1
  rw [hstate] at h2 h3 h4
  rw [hstale] at h4
  exact ⟨h1, h2, h3, h4⟩

theorem reports_still (p : Point) : (Moved.still p).Reports p :=
  ⟨rfl, by simp [Moved.still], by simp [Moved.still], by simp [Moved.still]⟩

theorem reports_arrive (a : Arrival) (p : Point) : (arrive a p).Reports p := by
  obtain ⟨-, h⟩ | ⟨st, hst, h⟩ := arrive_cases a p
  · rw [h]; exact reports_still p
  · have hne : st ≠ p.state := respond_ne _ _ _ _ _ hst
    rw [h]
    refine ⟨rfl, ⟨fun _ => hne, fun _ => rfl⟩, ?_, ⟨fun _ => .inl hne, fun _ => rfl⟩⟩
    simp only [beq_iff_eq]
    exact ⟨fun halert => ⟨halert ▸ hne.symm, halert⟩, fun hboth => hboth.2⟩

theorem reports_takeCondition (c : Condition) (p : Point) : (takeCondition c p).Reports p := by
  by_cases h : p.run.condition = c
  · rw [takeCondition_same h]; exact reports_still p
  · rw [takeCondition_new h]
    exact (reports_arrive c.arrival _).of_agree rfl rfl rfl

theorem takeCondition_stale (c : Condition) (p : Point) : (takeCondition c p).point.run.stale = p.run.stale := by
  by_cases h : p.run.condition = c
  · rw [takeCondition_same h]; rfl
  · rw [takeCondition_new h, arrive_stale]

theorem reports_takeAgeing (v : Condition) (n : Nat) (b : Bool) (p : Point) : (takeAgeing v n b p).Reports p := by
  obtain ⟨hnumber, hchanged, halert, hpost⟩ :=
    reports_takeCondition (if b then .abnormal else v)
      { p with run := { p.run with asserted := v, age := n, stale := b } }
  refine ⟨hnumber, hchanged, halert, ?_⟩
  have hstale : (takeAgeing v n b p).point.run.stale = b := takeCondition_stale ..
  rw [takeCondition_stale, ne_self_iff_false, or_false] at hpost
  rw [hstale]
  simp only [takeAgeing, Bool.or_eq_true, bne_iff_ne]
  exact or_congr hpost ne_comm

theorem reports_refresh (p : Point) : (refresh p).Reports p := by
  unfold refresh
  split
  · exact reports_takeAgeing ..
  · exact reports_still p

theorem reports_ageByOne (p : Point) : (ageByOne p).Reports p := by
  unfold ageByOne
  split
  · exact reports_takeAgeing ..
  · exact reports_still p

theorem reports_takeLineState (s : State) (p : Point) : (takeLineState s p).Reports p := by
  unfold takeLineState
  split
  · exact reports_takeCondition ..
  · exact reports_still p

theorem reports_takeBatch (b : Batch) (p : Point) : (takeBatch b p).Reports p := by
  unfold takeBatch
  split
  · exact reports_still p
  · split
    · exact reports_still p
    · exact reports_takeCondition ..

theorem reports_onlyWhere {f : Point → Moved} {p : Point} (c : Point → Bool) (h : (f p).Reports p) :
    (onlyWhere c f p).Reports p := by
  unfold onlyWhere
  split
  · exact h
  · exact reports_still p

theorem reports_onlyPoint {f : Point → Moved} {p : Point} (n : Nat) (h : p.number = n → (f p).Reports p) :
    (onlyPoint n f p).Reports p := by
  unfold onlyPoint
  split
  · next hn => exact h hn
  · exact reports_still p

/-! ### The rules that a record keeps -/

/-- A state that the sequence type can hold and that agrees with the condition (R26, R27). -/
abbrev StateFits (sq : SequenceType) (c : Condition) (st : PointState) : Prop :=
  (sq ≠ .lock → st ≠ .hold) ∧ (sq ≠ .ringback → st ≠ .returned) ∧
  (st ≠ .shelved → ((st = .alert ∨ st = .acked) ↔ c = .abnormal))

theorem stateFits_of_pointOk {p : Point} (h : PointOk p) : StateFits p.defn.sequence p.run.condition p.state := by
  obtain ⟨-, ⟨hhold, hreturned⟩, hagrees, -⟩ := h
  exact ⟨hhold, hreturned, hagrees⟩

/-- An arrival that the host or a key brings leads from a fitting state to a fitting one. -/
theorem stateFits_respond {sq : SequenceType} {c : Condition} {st : PointState} {a : Arrival} (habn : a ≠ .abn)
    (hnrm : a ≠ .nrm) (h : StateFits sq c st) : StateFits sq c ((respond sq c st a).getD st) := by
  cases a with
  | abn => exact absurd rfl habn
  | nrm => exact absurd rfl hnrm
  | ack | clr | shelve | unshelve => revert h; cases st <;> cases sq <;> cases c <;> decide

/-- ABN and NRM lead from a state that fits the old condition to one that fits the new (R8). -/
theorem stateFits_arrival {sq : SequenceType} {c d : Condition} {st : PointState} (hne : d ≠ c) (h : StateFits sq d st) :
    StateFits sq c ((respond sq c st c.arrival).getD st) := by
  revert hne h
  cases st <;> cases sq <;> cases c <;> cases d <;> decide

/-- A point moved to a fitting state keeps the rules of its record. -/
theorem pointOk_movesTo {p : Point} {st : PointState} (hrange : p.defn.InRange) (hsilenced : SilencedOk p) (hageing : AgeingOk p)
    (h : StateFits p.defn.sequence p.run.condition st) : PointOk (p.movesTo st) := by
  obtain ⟨hhold, hreturned, hagrees⟩ := h
  refine ⟨?_, ?_, ?_, ?_, ?_⟩
  · rwa [Point.movesTo_defn]
  · rw [SequenceOk, Point.movesTo_defn, Point.movesTo_state]; exact ⟨hhold, hreturned⟩
  · rw [AgreesWithCondition, Point.movesTo_state, Point.movesTo_condition]; exact hagrees
  · unfold Point.movesTo
    split
    · exact hsilenced
    · exact nofun
  · simp only [AgeingOk, Runtime.hostCondition, Point.movesTo_defn, Point.movesTo_age, Point.movesTo_stale,
      Point.movesTo_condition, Point.movesTo_asserted]
    exact hageing

theorem pointOk_arrive {a : Arrival} {p : Point} (habn : a ≠ .abn) (hnrm : a ≠ .nrm) (h : PointOk p) :
    PointOk (arrive a p).point := by
  have hfits := stateFits_of_pointOk h
  obtain ⟨hrange, -, -, hsilenced, hageing⟩ := h
  rw [arrive_point]
  exact pointOk_movesTo hrange hsilenced hageing (stateFits_respond habn hnrm hfits)

/-- A point whose state fits the condition held, with the ageing fields that its source has under the new one. -/
theorem pointOk_takeCondition {c : Condition} {p : Point} (hrange : p.defn.InRange) (hsilenced : SilencedOk p)
    (hfits : StateFits p.defn.sequence p.run.condition p.state)
    (hageing : AgeingOk { p with run := { p.run with condition := c } }) : PointOk (takeCondition c p).point := by
  by_cases h : p.run.condition = c
  · obtain ⟨hhold, hreturned, hagrees⟩ := hfits
    rw [takeCondition_same h]
    refine ⟨hrange, ⟨hhold, hreturned⟩, hagrees, hsilenced, ?_⟩
    rw [← h] at hageing
    exact hageing
  · rw [takeCondition_new h, arrive_point]
    exact pointOk_movesTo hrange hsilenced hageing (stateFits_arrival h hfits)

/-- A delivered state keeps the rules of a LINE point (R9). -/
theorem pointOk_takeCondition_line {c : Condition} {p : Point} (h : PointOk p) (hsource : p.defn.source ≠ .host) :
    PointOk (takeCondition c p).point := by
  have hfits := stateFits_of_pointOk h
  obtain ⟨hrange, -, -, hsilenced, hageing⟩ := h
  refine pointOk_takeCondition hrange hsilenced hfits ?_
  rw [AgeingOk, if_neg hsource] at hageing ⊢
  exact hageing

/-- New ageing fields keep the rules of a HOST point, when the stale flag goes with the age (R88). -/
theorem pointOk_takeAgeing {v : Condition} {n : Nat} {b : Bool} {p : Point} (h : PointOk p) (hsource : p.defn.source = .host)
    (hage : n ≤ 3) (hstale : b = true ↔ n = 3) : PointOk (takeAgeing v n b p).point := by
  have hfits := stateFits_of_pointOk h
  obtain ⟨hrange, -, -, hsilenced, -⟩ := h
  refine pointOk_takeCondition (p := { p with run := { p.run with asserted := v, age := n, stale := b } }) hrange hsilenced hfits ?_
  rw [AgeingOk, if_pos hsource]
  exact ⟨hage, hstale, rfl⟩

theorem pointOk_onlyWhere {f : Point → Moved} {p : Point} (c : Point → Bool) (h : PointOk p) (hf : PointOk (f p).point) :
    PointOk (onlyWhere c f p).point := by
  unfold onlyWhere
  split
  · exact hf
  · exact h

theorem pointOk_onlyPoint {f : Point → Moved} {p : Point} (n : Nat) (h : PointOk p) (hf : p.number = n → PointOk (f p).point) :
    PointOk (onlyPoint n f p).point := by
  unfold onlyPoint
  split
  · next hn => exact hf hn
  · exact h

end Sys2Proof.Machine
end

section
/-! SUPPORT. One event of the point table taken whole: what the group unit decides, which points are posted, and the event in
the words of the statements (R47 to R56, R151, R171). -/

namespace Sys2Proof.Machine

/-! ### The group unit's decision -/

@[simp] theorem decideGroup_number (ms : List Moved) (ask : Asked) (G : Group) : (decideGroup ms ask G).number = G.number := by
  unfold decideGroup
  split
  · rfl
  · split <;> rfl
  · split <;> rfl

@[simp] theorem decideGroup_enabled (ms : List Moved) (ask : Asked) (G : Group) : (decideGroup ms ask G).enabled = G.enabled := by
  unfold decideGroup
  split
  · rfl
  · split <;> rfl
  · split <;> rfl

@[simp] theorem decideGroup_release (ms : List Moved) (ask : Asked) (G : Group) : (decideGroup ms ask G).release = G.release := by
  unfold decideGroup
  split
  · rfl
  · split <;> rfl
  · split <;> rfl

/-- A DISABLED group drops every offer (R48). -/
theorem decideGroup_disabled {G : Group} (h : G.state = .disabled) (ms : List Moved) (ask : Asked) : decideGroup ms ask G = G := by
  rw [decideGroup, h]

/-- An ARMED group captures the lowest offer (R50). -/
theorem decideGroup_armed {G : Group} (h : G.state = .armed) (ms : List Moved) (ask : Asked) :
    (decideGroup ms ask G).state = match (offers ms G.number).min? with | none => .armed | some n => .captured n := by
  rw [decideGroup, h]
  dsimp only
  cases (offers ms G.number).min? with
  | none => exact h
  | some n => rfl

/-- A CAPTURED group may be released (R53). -/
theorem decideGroup_captured {G : Group} {n : Nat} (h : G.state = .captured n) (ms : List Moved) (ask : Asked) :
    (decideGroup ms ask G).state = if released ms ask G then .armed else .captured n := by
  rw [decideGroup, h]
  dsimp only
  split
  · rfl
  · exact h

theorem decideGroup_disabled_iff (ms : List Moved) (ask : Asked) (G : Group) :
    (decideGroup ms ask G).state = .disabled ↔ G.state = .disabled := by
  cases h : G.state with
  | disabled => rw [decideGroup_disabled h, h]
  | armed =>
    rw [decideGroup_armed h]
    cases (offers ms G.number).min? <;> simp
  | captured n =>
    rw [decideGroup_captured h]
    split <;> simp

/-- After the decision a group holds a point that it has just captured or that it keeps. -/
theorem decideGroup_captured_iff (ms : List Moved) (ask : Asked) (G : Group) (n : Nat) :
    (decideGroup ms ask G).state = .captured n ↔
      (G.state = .armed ∧ (offers ms G.number).min? = some n) ∨ (G.state = .captured n ∧ released ms ask G = false) := by
  cases h : G.state with
  | disabled => simp [decideGroup_disabled h, h]
  | armed =>
    rw [decideGroup_armed h]
    cases (offers ms G.number).min? <;> simp
  | captured m =>
    rw [decideGroup_captured h]
    cases released ms ask G <;> simp

/-- The mark of a point moves where its group captures it or releases it (R50, R53). -/
theorem markMoved_decideGroup_iff (ms : List Moved) (ask : Asked) (G : Group) (n : Nat) :
    markMoved G (decideGroup ms ask G) = some n ↔
      (G.state = .armed ∧ (decideGroup ms ask G).state = .captured n) ∨
      (G.state = .captured n ∧ (decideGroup ms ask G).state ≠ .captured n) := by
  cases h : G.state with
  | disabled => simp [markMoved, h]
  | armed =>
    rw [markMoved, h, decideGroup_armed h]
    cases (offers ms G.number).min? <;> simp
  | captured m =>
    rw [markMoved, h, decideGroup_captured h]
    cases released ms ask G with
    | false =>
      simp only [Bool.false_eq_true, if_false, reduceCtorEq, GroupState.captured.injEq, false_and, false_or, false_iff]
      rintro ⟨rfl, hne⟩
      exact hne rfl
    | true =>
      simp only [if_true, Option.some.injEq, reduceCtorEq, and_false, GroupState.captured.injEq, false_or, ne_eq,
        not_false_eq_true, and_true]

theorem mem_offers {ms : List Moved} {g n : Nat} :
    n ∈ offers ms g ↔ ∃ m ∈ ms, m.alert = true ∧ m.point.group = g ∧ m.point.number = n := by
  simp only [offers, List.mem_map, List.mem_filter, Bool.and_eq_true, beq_iff_eq, and_assoc]

theorem noUnacknowledged_iff (ms : List Moved) (g : Nat) :
    noUnacknowledged ms g = true ↔ ∀ m ∈ ms, m.point.group = g → ¬ Unacknowledged m.point := by
  simp only [noUnacknowledged, List.all_eq_true, Bool.or_eq_true, bne_iff_ne, Bool.not_eq_true', ← Bool.not_eq_true,
    unacknowledged_iff]
  exact forall₂_congr fun m _ => (Decidable.imp_iff_not_or ..).symm

theorem resting_iff (st : PointState) : st.resting = true ↔ st = .normal ∨ st = .shelved := by
  cases st <;> simp [PointState.resting]

/-- Each group has its own number (R47). -/
theorem GroupsOk.eq_of_number {s : State} (h : GroupsOk s) {G H : Group} (hG : G ∈ s.groups) (hH : H ∈ s.groups)
    (hnum : G.number = H.number) : G = H := by
  have hnodup : (s.groups.map Group.number).Nodup := by rw [h.1]; decide
  exact List.inj_on_of_nodup_map hnodup hG hH hnum

/-- Each point has its own number (R1). -/
theorem NumbersAscend.eq_of_number {s : State} (h : NumbersAscend s) {p q : Point} (hp : p ∈ s.points) (hq : q ∈ s.points)
    (hnum : p.number = q.number) : p = q :=
  List.inj_on_of_nodup_map h.nodup hp hq hnum

/-- The first-out mark of a record, where the groups have the numbers of R47. -/
theorem firstOut_iff_of_numbers {gs : List Group} (h : gs.map Group.number = [1, 2, 3, 4, 5, 6, 7, 8]) (p : Point) :
    firstOut gs p = true ↔ ∃ G ∈ gs, G.number = p.group ∧ G.state = .captured p.number := by
  simp only [firstOut, Bool.and_eq_true, List.any_eq_true, beq_iff_eq, bne_iff_ne]
  refine ⟨And.right, fun hmark => ⟨?_, hmark⟩⟩
  obtain ⟨G, hG, hnum, -⟩ := hmark
  have hmem : G.number ∈ gs.map Group.number := List.mem_map_of_mem hG
  rw [h] at hmem
  rintro h0
  rw [hnum, h0] at hmem
  exact absurd hmem (by decide)

/-- A captured point bears its group's mark (R48). -/
theorem marked_of_captured {s : State} (hascend : NumbersAscend s) (hgroups : GroupsOk s) {p : Point} (hp : p ∈ s.points)
    {G : Group} (hG : G ∈ s.groups) (hstate : G.state = .captured p.number) : G.number = p.group := by
  obtain ⟨q, hq, hnum, hgroup, -⟩ := (hgroups.2 G hG).2 p.number (by rw [hstate]; rfl)
  rw [← hgroup, hascend.eq_of_number hq hp hnum]

/-! ### An event whose function reports truly -/

section Event
variable {s : State} {f : Point → Moved}

/-- The numbers stand as they stood (R5). -/
theorem numbers_moved (hrep : ∀ p ∈ s.points, (f p).Reports p) :
    (s.points.map f).map (fun m => m.point.number) = definedNumbers s := by
  rw [List.map_map]
  exact List.map_congr_left fun p hp => (hrep p hp).number

/-- Which points offer themselves to a group (R49). -/
theorem mem_offers_moved (hrep : ∀ p ∈ s.points, (f p).Reports p) {G : Group} {n : Nat} :
    n ∈ offers (s.points.map f) G.number ↔ ∃ p ∈ s.points, Offers (fun p => (f p).point) G p ∧ p.number = n := by
  simp only [mem_offers, List.mem_map, exists_exists_and_eq_and]
  refine exists_congr fun p => and_congr_right fun hp => ?_
  rw [(hrep p hp).alert, (hrep p hp).number, ← and_assoc]

theorem memberChanged_iff (hrep : ∀ p ∈ s.points, (f p).Reports p) (g : Nat) :
    memberChanged (s.points.map f) g = true ↔ ∃ p ∈ s.points, (f p).point.group = g ∧ (f p).point.state ≠ p.state := by
  simp only [memberChanged, List.any_map, List.any_eq_true, Function.comp, Bool.and_eq_true, beq_iff_eq]
  refine exists_congr fun p => and_congr_right fun hp => ?_
  rw [(hrep p hp).changed, and_comm]

theorem membersResting_iff (g : Nat) :
    membersResting (s.points.map f) g = true ↔
      ∀ p ∈ s.points, (f p).point.group = g → (f p).point.state = .normal ∨ (f p).point.state = .shelved := by
  simp only [membersResting, List.all_map, List.all_eq_true, Function.comp, Bool.or_eq_true, bne_iff_ne, resting_iff]
  exact forall₂_congr fun p _ => (Decidable.imp_iff_not_or ..).symm

/-- A release is one that the event asks for, or the AUTO rule's (R53 to R56). -/
theorem released_iff (hrep : ∀ p ∈ s.points, (f p).Reports p) (ask : Asked) (G : Group) :
    released (s.points.map f) ask G = true ↔
      (ask.released G = true ∨ (ask.cleared G = true ∧ noUnacknowledged (s.points.map f) G.number = true)) ∨
        AutoReleases s (fun p => (f p).point) G := by
  simp only [released, Bool.or_eq_true, Bool.and_eq_true, beq_iff_eq, memberChanged_iff hrep, membersResting_iff, and_assoc]

/-- What the decision leaves of a group record, in the words of R48 and R50 to R54. -/
theorem groupStep_decideGroup (hrep : ∀ p ∈ s.points, (f p).Reports p) {ask : Asked} {asked : Group → Prop} {G : Group}
    (hasked : G.state.capturedPoint ≠ none →
      ((ask.released G = true ∨ (ask.cleared G = true ∧ noUnacknowledged (s.points.map f) G.number = true)) ↔ asked G)) :
    GroupStep s (fun p => (f p).point) asked G (decideGroup (s.points.map f) ask G) := by
  refine ⟨decideGroup_number .., decideGroup_enabled .., decideGroup_release ..,
    (decideGroup_disabled_iff (s.points.map f) ask G).mpr, ?armed, ?captured⟩
  case armed =>
    intro harmed
    rw [decideGroup_armed harmed]
    cases hmin : (offers (s.points.map f) G.number).min? with
    | none =>
      have hnone : ∀ p ∈ s.points, ¬ Offers (fun p => (f p).point) G p := by
        intro p hp hoffer
        have hmem : p.number ∈ offers (s.points.map f) G.number := (mem_offers_moved hrep).mpr ⟨p, hp, hoffer, rfl⟩
        rw [List.min?_eq_none_iff.mp hmin] at hmem
        cases hmem
      exact ⟨fun ⟨p, hp, hoffer⟩ => absurd hoffer (hnone p hp), fun _ => rfl⟩
    | some n =>
      obtain ⟨hmem, hleast⟩ := List.min?_eq_some_iff.mp hmin
      obtain ⟨q, hq, hoffer, rfl⟩ := (mem_offers_moved hrep).mp hmem
      refine ⟨fun _ => ⟨q, hq, hoffer, fun r hr hr' => hleast _ ((mem_offers_moved hrep).mpr ⟨r, hr, hr', rfl⟩), rfl⟩, ?_⟩
      exact fun hnone => absurd hoffer (hnone q hq)
  case captured =>
    intro n hn
    have hstate : G.state = .captured n := by
      cases hG : G.state with
      | captured m => rw [hG] at hn; cases hn; rfl
      | armed | disabled => rw [hG] at hn; cases hn
    have hasked := hasked (by rw [Option.mem_def.mp hn]; simp)
    rw [decideGroup_captured hstate]
    refine ⟨fun hrel => if_pos ?_, fun hkeep => if_neg ?_⟩
    · rw [released_iff hrep, hasked]; exact hrel
    · rw [released_iff hrep, hasked]; exact hkeep

/-! ### The marks that move -/

/-- A group that holds a point after the event is the group that the point's record names. -/
theorem group_of_decided {ask : Asked} (hascend : NumbersAscend s) (hgroups : GroupsOk s)
    (hrep : ∀ p ∈ s.points, (f p).Reports p) {p : Point} (hp : p ∈ s.points)
    (hkeeps : (f p).point.group = p.group ∨ ¬ Marked s p) {G : Group} (hG : G ∈ s.groups)
    (hstate : (decideGroup (s.points.map f) ask G).state = .captured p.number) : G.number = (f p).point.group := by
  rcases (decideGroup_captured_iff ..).mp hstate with ⟨-, hmin⟩ | ⟨hcaptured, -⟩
  · obtain ⟨q, hq, ⟨-, hgroup⟩, hnum⟩ := (mem_offers_moved hrep).mp (List.min?_eq_some_iff.mp hmin).1
    rw [← hascend.eq_of_number hq hp hnum]
    exact hgroup.symm
  · have hnum := marked_of_captured hascend hgroups hp hG hcaptured
    rcases hkeeps with hsame | hnot
    · rw [hsame, hnum]
    · exact absurd ⟨G, hG, hnum, hcaptured⟩ hnot

/-- The groups after the event. -/
abbrev groupsAfter (s : State) (f : Point → Moved) (ask : Asked) : List Group := s.groups.map (decideGroup (s.points.map f) ask)

theorem numbers_groupsAfter (hgroups : GroupsOk s) (ask : Asked) :
    (groupsAfter s f ask).map Group.number = [1, 2, 3, 4, 5, 6, 7, 8] := by
  rw [List.map_map, ← hgroups.1]
  exact List.map_congr_left fun G _ => decideGroup_number ..

/-- A point's mark moves exactly where its first-out flag differs before and after (R33, R50, R53). -/
theorem mem_marks_iff {ask : Asked} (hascend : NumbersAscend s) (hgroups : GroupsOk s)
    (hrep : ∀ p ∈ s.points, (f p).Reports p) {p : Point} (hp : p ∈ s.points)
    (hkeeps : (f p).point.group = p.group ∨ ¬ Marked s p) :
    p.number ∈ (s.groups.filterMap fun G => markMoved G (decideGroup (s.points.map f) ask G)) ↔
      firstOut (groupsAfter s f ask) (f p).point ≠ firstOut s.groups p := by
  have hbefore : firstOut s.groups p = true ↔ ∃ G ∈ s.groups, G.state = .captured p.number := by
    rw [firstOut_iff_of_numbers hgroups.1]
    exact exists_congr fun G => and_congr_right fun hG =>
      ⟨And.right, fun hstate => ⟨marked_of_captured hascend hgroups hp hG hstate, hstate⟩⟩
  have hafter : firstOut (groupsAfter s f ask) (f p).point = true ↔
      ∃ G ∈ s.groups, (decideGroup (s.points.map f) ask G).state = .captured p.number := by
    rw [firstOut_iff_of_numbers (numbers_groupsAfter hgroups ask), (hrep p hp).number]
    simp only [List.mem_map, exists_exists_and_eq_and, decideGroup_number]
    exact exists_congr fun G => and_congr_right fun hG =>
      ⟨And.right, fun hstate => ⟨group_of_decided hascend hgroups hrep hp hkeeps hG hstate, hstate⟩⟩
  rw [ne_eq, Bool.eq_iff_iff, hbefore, hafter]
  simp only [List.mem_filterMap, markMoved_decideGroup_iff]
  constructor
  · rintro ⟨G, hG, ⟨harmed, hstate⟩ | ⟨hstate, hgone⟩⟩ heq
    · obtain ⟨H, hH, hheld⟩ := heq.mp ⟨G, hG, hstate⟩
      have hmarked : Marked s p := ⟨H, hH, marked_of_captured hascend hgroups hp hH hheld, hheld⟩
      have hsame : (f p).point.group = p.group := hkeeps.resolve_right (not_not_intro hmarked)
      have hnum : H.number = G.number := by
        rw [marked_of_captured hascend hgroups hp hH hheld, group_of_decided hascend hgroups hrep hp hkeeps hG hstate, hsame]
      rw [hgroups.eq_of_number hH hG hnum, harmed] at hheld
      cases hheld
    · obtain ⟨H, hH, hheld⟩ := heq.mpr ⟨G, hG, hstate⟩
      have hmarked : Marked s p := ⟨G, hG, marked_of_captured hascend hgroups hp hG hstate, hstate⟩
      have hsame : (f p).point.group = p.group := hkeeps.resolve_right (not_not_intro hmarked)
      have hnum : H.number = G.number := by
        rw [marked_of_captured hascend hgroups hp hG hstate, group_of_decided hascend hgroups hrep hp hkeeps hH hheld, hsame]
      rw [hgroups.eq_of_number hH hG hnum] at hheld
      exact hgone hheld
  · intro hne
    by_cases hheld : ∃ G ∈ s.groups, G.state = .captured p.number
    · obtain ⟨G, hG, hstate⟩ := hheld
      exact ⟨G, hG, .inr ⟨hstate, fun hkept => hne (iff_of_true ⟨G, hG, hkept⟩ ⟨G, hG, hstate⟩)⟩⟩
    · have hnew : ∃ G ∈ s.groups, (decideGroup (s.points.map f) ask G).state = .captured p.number := by
        by_contra hnone
        exact hne (iff_of_false hnone hheld)
      obtain ⟨G, hG, hstate⟩ := hnew
      rcases (decideGroup_captured_iff ..).mp hstate with ⟨harmed, -⟩ | ⟨hcaptured, -⟩
      · exact ⟨G, hG, .inl ⟨harmed, hstate⟩⟩
      · exact absurd ⟨G, hG, hcaptured⟩ hheld

end Event

/-! ### Posting -/

/-- Points posted out of the defined ones, some of them leading: the same choice made of the whole order. -/
theorem leadWith_filter (lead ns : List Nat) (c : Nat → Bool) : leadWith lead (ns.filter c) = (leadWith lead ns).filter c := by
  unfold leadWith
  rw [List.filter_append, List.filter_filter, List.filter_filter, List.filter_filter]
  congr 1
  · refine List.filter_congr fun n _ => ?_
    rw [Bool.eq_iff_iff, Bool.and_eq_true, List.contains_iff_mem, List.contains_iff_mem, List.mem_filter, and_comm]
  · exact List.filter_congr fun n _ => Bool.and_comm ..

theorem leadWith_nil (ns : List Nat) : leadWith [] ns = ns := by simp [leadWith]

theorem mem_leadWith {lead ns : List Nat} {n : Nat} : n ∈ leadWith lead ns ↔ n ∈ ns := by
  simp only [leadWith, List.mem_append, List.mem_filter, List.contains_iff_mem, Bool.not_eq_true', ← Bool.not_eq_true]
  refine ⟨?_, fun hn => ?_⟩
  · rintro (⟨-, hn⟩ | ⟨hn, -⟩) <;> exact hn
  · by_cases hlead : n ∈ lead
    · exact .inl ⟨hlead, hn⟩
    · exact .inr ⟨hn, hlead⟩

/-- The points that an event posts are the defined ones that the rules post, in table order (R33, R171). -/
theorem posted_eq {s t : State} {f : Point → Moved} {ask : Asked} (hascend : NumbersAscend s) (hgroups : GroupsOk s)
    (hrep : ∀ p ∈ s.points, (f p).Reports p) (hkeeps : ∀ p ∈ s.points, (f p).point.group = p.group ∨ ¬ Marked s p)
    (ht : t.groups = groupsAfter s f ask) :
    posted (s.points.map f) (s.groups.filterMap fun G => markMoved G (decideGroup (s.points.map f) ask G)) =
      (definedNumbers s).filter fun n => decide (Posted s t (fun p => (f p).point) n) := by
  have hposted : ∀ p ∈ s.points, ((f p).post || (s.groups.filterMap fun G =>
      markMoved G (decideGroup (s.points.map f) ask G)).contains (f p).point.number) =
        decide (Posted s t (fun p => (f p).point) p.number) := by
    intro p hp
    rw [Bool.eq_iff_iff, Bool.or_eq_true, decide_eq_true_iff, List.contains_iff_mem, (hrep p hp).post, (hrep p hp).number,
      mem_marks_iff hascend hgroups hrep hp (hkeeps p hp), or_assoc, ← ht]
    refine ⟨fun h => ⟨p, hp, rfl, h⟩, ?_⟩
    rintro ⟨q, hq, hnum, h⟩
    rwa [hascend.eq_of_number hq hp hnum] at h
  rw [posted, List.filter_map, List.map_map, definedNumbers, List.filter_map]
  simp only [Function.comp_def]
  rw [List.filter_congr hposted]
  exact List.map_congr_left fun p hp => (hrep p (List.mem_filter.mp hp).1).number

/-! ### The event in the words of the statements -/

/-- The change list after an event, when it posts those that the rules post (R171). -/
theorem post_leadWith {es : List ChangeEntry} {lead ns : List Nat} {P : Nat → Prop} [DecidablePred P]
    (h : ∀ n, P n → n ∈ ns) :
    post (leadWith lead (ns.filter fun n => decide (P n))) es =
      (es.map fun e => if P e.point then { e with inFlight := false } else e) ++
        ((leadWith lead ns).filter fun n => P n ∧ n ∉ es.map ChangeEntry.point).map fun n =>
          { point := n, inFlight := false } := by
  have hmem (n : Nat) : n ∈ leadWith lead (ns.filter fun n => decide (P n)) ↔ P n := by
    rw [mem_leadWith, List.mem_filter, decide_eq_true_iff]
    exact ⟨And.right, fun hn => ⟨h n hn, hn⟩⟩
  unfold post
  simp only [hmem]
  rw [leadWith_filter, List.filter_filter]
  congr 2
  refine List.filter_congr fun n _ => ?_
  rw [Bool.eq_iff_iff]
  simp only [Bool.and_eq_true, decide_eq_true_iff, Bool.not_eq_true', List.any_eq_false, beq_iff_eq, List.mem_map, not_exists,
    not_and]
  exact and_comm

/-- Pairs of a list and its image under a function. -/
theorem mem_zip_map {α β : Type} {l : List α} {f : α → β} {x : α × β} (h : x ∈ l.zip (l.map f)) : x.1 ∈ l ∧ x.2 = f x.1 := by
  induction l with
  | nil => cases h
  | cons a l ih =>
    rcases List.mem_cons.mp h with rfl | h
    · exact ⟨List.mem_cons_self, rfl⟩
    · exact ⟨List.mem_cons_of_mem a (ih h).1, (ih h).2⟩

/-- An event of the point table, with the end that every event has, is the event that the rules describe. -/
theorem panelEvent_pointEventWith {s : State} {f : Point → Moved} {g : Point → Point} {lead order : List Nat} {ask : Asked}
    {asked : Group → Prop} (hascend : NumbersAscend s) (hgroups : GroupsOk s) (hrep : ∀ p ∈ s.points, (f p).Reports p)
    (hpoint : ∀ p, (f p).point = g p) (hkeeps : ∀ p ∈ s.points, (f p).point.group = p.group ∨ ¬ Marked s p)
    (hasked : ∀ G ∈ s.groups, G.state.capturedPoint ≠ none →
      ((ask.released G = true ∨ (ask.cleared G = true ∧ noUnacknowledged (s.points.map f) G.number = true)) ↔ asked G))
    (horder : leadWith lead (definedNumbers s) = order) :
    PanelEvent s (restHorns (pointEventWith lead ask f s)) g asked order := by
  obtain rfl : (fun p => (f p).point) = g := funext hpoint
  subst horder
  refine ⟨rfl, ?points, List.length_map .., ?groups, ?changes, ?gap, ?horn1, ?horn2, rfl⟩
  case points => exact List.map_map ..
  case groups =>
    intro x hx
    obtain ⟨hG, hdecided⟩ := mem_zip_map hx
    rw [hdecided]
    exact groupStep_decideGroup hrep (hasked x.1 hG)
  case changes =>
    refine Eq.trans (b := post (leadWith lead (posted (s.points.map f)
      (s.groups.filterMap fun G => markMoved G (decideGroup (s.points.map f) ask G)))) s.changes) rfl ?_
    rw [posted_eq hascend hgroups hrep hkeeps (t := restHorns (pointEventWith lead ask f s)) rfl]
    exact post_leadWith fun n ⟨p, hp, hnum, _⟩ => List.mem_map.mpr ⟨p, hp, hnum⟩
  case gap =>
    have hentered : (s.points.map f).any Moved.alert = true ↔ ∃ p ∈ s.points, EntersAlert (fun p => (f p).point) p := by
      rw [List.any_map, List.any_eq_true]
      exact exists_congr fun p => and_congr_right fun hp => (hrep p hp).alert
    refine Eq.trans (b := gapAfter s ((s.points.map f).any Moved.alert)) rfl ?_
    unfold gapAfter
    refine if_congr ?_ rfl rfl
    rw [Bool.and_eq_true, Bool.and_eq_true, Bool.or_eq_true, hentered, and_assoc, Option.isSome_iff_ne_none]
  case horn1 =>
    rw [sounding_restHorns]
    exact restHorns_horn1 _
  case horn2 =>
    rw [sounding_restHorns]
    exact restHorns_horn2 _

/-- The usual event: it asks nothing of the group unit, keeps the points' groups, and posts in table order. -/
theorem panelEvent_pointEvent {s : State} {f : Point → Moved} {g : Point → Point} (hascend : NumbersAscend s)
    (hgroups : GroupsOk s) (hrep : ∀ p ∈ s.points, (f p).Reports p) (hpoint : ∀ p, (f p).point = g p)
    (hkeeps : ∀ p ∈ s.points, (f p).point.group = p.group ∨ ¬ Marked s p) :
    PanelEvent s (restHorns (pointEvent f s)) g nobody (definedNumbers s) :=
  panelEvent_pointEventWith hascend hgroups hrep hpoint hkeeps (fun _ _ _ => by simp [Asked.nothing]) (leadWith_nil _)

end Sys2Proof.Machine
end

section
/-! SUPPORT. The point table, the groups, the shelf and the change list agree: what an event of the point table keeps of that
(R1 to R4, R26, R27, R34, R48, R88, R102, R170). -/

namespace Sys2Proof.Machine

/-! ### The four parts, list by list -/

/-- The shelf list by itself: its length, its points, its order, and its ranges (R101). -/
def ShelfList (es : List ShelfEntry) : Prop :=
  es.length ≤ Config.shelfEntries ∧ (es.map ShelfEntry.point).Nodup ∧ (es.map ShelfEntry.remaining).Pairwise (· ≤ ·) ∧
  ∀ e ∈ es, 1 ≤ e.remaining ∧ e.remaining ≤ Config.maxMinutes

/-- The points that are SHELVED. -/
def Shelved (s : State) (n : Nat) : Prop := ∃ p ∈ s.points, p.number = n ∧ p.state = .shelved

theorem shelfOk_iff {s : State} : ShelfOk s ↔ ShelfList s.shelf ∧ ∀ n, n ∈ s.shelf.map ShelfEntry.point ↔ Shelved s n := by
  constructor
  · rintro ⟨hlength, hnodup, hsorted, hrange, hentries, hpoints⟩
    refine ⟨⟨hlength, hnodup, hsorted, hrange⟩, fun n => ⟨?_, ?_⟩⟩
    · intro hn
      obtain ⟨e, he, rfl⟩ := List.mem_map.mp hn
      exact hentries e he
    · rintro ⟨p, hp, rfl, hstate⟩
      obtain ⟨e, he, hnum⟩ := hpoints p hp hstate
      exact List.mem_map.mpr ⟨e, he, hnum⟩
  · rintro ⟨⟨hlength, hnodup, hsorted, hrange⟩, hagree⟩
    refine ⟨hlength, hnodup, hsorted, hrange, fun e he => (hagree e.point).mp (List.mem_map_of_mem he), fun p hp hstate => ?_⟩
    exact List.mem_map.mp ((hagree p.number).mpr ⟨p, hp, rfl, hstate⟩)

theorem changesOk_iff {s : State} :
    ChangesOk s ↔ (s.changes.map ChangeEntry.point).Nodup ∧ s.changes.map ChangeEntry.point ⊆ definedNumbers s := by
  refine and_congr_right fun _ => ⟨fun h n hn => ?_, fun h e he => List.mem_map.mp (h (List.mem_map_of_mem he))⟩
  obtain ⟨e, he, rfl⟩ := List.mem_map.mp hn
  exact List.mem_map.mpr (h e he)

theorem PanelOk.tableOk {s : State} : PanelOk s → TableOk s | ⟨h, _⟩ => h
theorem PanelOk.ascend {s : State} : PanelOk s → NumbersAscend s | ⟨⟨h, _⟩, _⟩ => h
theorem PanelOk.pointOk {s : State} (h : PanelOk s) {p : Point} (hp : p ∈ s.points) : PointOk p := h.tableOk.2 p hp
theorem PanelOk.groupsOk {s : State} : PanelOk s → GroupsOk s | ⟨_, h, _⟩ => h
theorem PanelOk.shelfOk {s : State} : PanelOk s → ShelfOk s | ⟨_, _, h, _⟩ => h
theorem PanelOk.shelfList {s : State} (h : PanelOk s) : ShelfList s.shelf := (shelfOk_iff.mp h.shelfOk).1

/-- Only the points, the groups, the shelf and the change list count. -/
theorem panelOk_congr {s t : State} (hpoints : t.points = s.points) (hgroups : t.groups = s.groups) (hshelf : t.shelf = s.shelf)
    (hchanges : t.changes = s.changes) (h : PanelOk s) : PanelOk t := by
  unfold PanelOk TableOk NumbersAscend GroupsOk ShelfOk ChangesOk
  rw [hpoints, hgroups, hshelf, hchanges]
  exact h

theorem ShelfList.sublist {es fs : List ShelfEntry} (h : ShelfList es) (hsub : fs.Sublist es) : ShelfList fs := by
  obtain ⟨hlength, hnodup, hsorted, hrange⟩ := h
  exact ⟨hsub.length_le.trans hlength, hnodup.sublist (hsub.map _), hsorted.sublist (hsub.map _),
    fun e he => hrange e (hsub.subset he)⟩

/-! ### The change list -/

theorem nodup_leadWith {lead ns : List Nat} (hlead : lead.Nodup) (hns : ns.Nodup) : (leadWith lead ns).Nodup := by
  refine List.Nodup.append (hlead.filter _) (hns.filter _) ?_
  intro n hn hn'
  have hmem : n ∈ lead := (List.mem_filter.mp hn).1
  simpa [hmem] using (List.mem_filter.mp hn').2

/-- A post of defined points keeps the list's points defined, each once (R170, R171). -/
theorem changes_post {es : List ChangeEntry} {ns defined : List Nat} (hnodup : (es.map ChangeEntry.point).Nodup)
    (hes : es.map ChangeEntry.point ⊆ defined) (hns : ns.Nodup) (hsub : ns ⊆ defined) :
    ((post ns es).map ChangeEntry.point).Nodup ∧ (post ns es).map ChangeEntry.point ⊆ defined := by
  rw [post_points]
  refine ⟨hnodup.append (hns.filter _) ?_, List.append_subset.mpr ⟨hes, fun n hn => hsub (List.mem_filter.mp hn).1⟩⟩
  intro n hn hnew
  obtain ⟨e, he, rfl⟩ := List.mem_map.mp hn
  have hnone := (List.mem_filter.mp hnew).2
  simp only [Bool.not_eq_true', List.any_eq_false, beq_iff_eq] at hnone
  exact hnone e he rfl

/-! ### An event of the point table -/

section Event
variable {s : State} {f : Point → Moved}

theorem definedNumbers_pointEventWith (hrep : ∀ p ∈ s.points, (f p).Reports p) (lead : List Nat) (ask : Asked) :
    definedNumbers (pointEventWith lead ask f s) = definedNumbers s := by
  rw [← numbers_moved hrep]
  exact List.map_map ..

theorem tableOk_pointEventWith (hascend : NumbersAscend s) (hrep : ∀ p ∈ s.points, (f p).Reports p)
    (hok : ∀ p ∈ s.points, PointOk (f p).point) (lead : List Nat) (ask : Asked) : TableOk (pointEventWith lead ask f s) := by
  refine ⟨?_, fun q hq => ?_⟩
  · change (definedNumbers (pointEventWith lead ask f s)).Pairwise (· < ·)
    rwa [definedNumbers_pointEventWith hrep]
  · obtain ⟨m, hm, rfl⟩ := List.mem_map.mp hq
    obtain ⟨p, hp, rfl⟩ := List.mem_map.mp hm
    exact hok p hp

/-- A group that keeps its point keeps a member that is not SHELVED; one that captures, captures a member in ALERT. -/
theorem groupsOk_pointEventWith (hgroups : GroupsOk s) (hrep : ∀ p ∈ s.points, (f p).Reports p) (lead : List Nat) {ask : Asked}
    (hcaptured : ∀ p ∈ s.points, ∀ G ∈ s.groups, G.number = p.group → G.state = .captured p.number →
      ask.released G = true ∨ ((f p).point.group = p.group ∧ (p.state ≠ .shelved → (f p).point.state ≠ .shelved))) :
    GroupsOk (pointEventWith lead ask f s) := by
  refine ⟨numbers_groupsAfter hgroups ask, fun G' hG' => ?_⟩
  obtain ⟨G, hG, rfl⟩ := List.mem_map.mp hG'
  obtain ⟨hdisabled, hheld⟩ := hgroups.2 G hG
  refine ⟨?_, fun n hn => ?_⟩
  · rw [decideGroup_disabled_iff, decideGroup_enabled]
    exact hdisabled
  rw [decideGroup_number]
  have hmem {p : Point} (hp : p ∈ s.points) : (f p).point ∈ (pointEventWith lead ask f s).points :=
    List.mem_map_of_mem (List.mem_map_of_mem hp)
  have hstate : (decideGroup (s.points.map f) ask G).state = .captured n := by
    cases hdecided : (decideGroup (s.points.map f) ask G).state with
    | captured m => rw [hdecided] at hn; cases hn; rfl
    | armed | disabled => rw [hdecided] at hn; cases hn
  rcases (decideGroup_captured_iff ..).mp hstate with ⟨-, hmin⟩ | ⟨hkept, hnot⟩
  · obtain ⟨p, hp, ⟨⟨-, halert⟩, hgroup⟩, rfl⟩ := (mem_offers_moved hrep).mp (List.min?_eq_some_iff.mp hmin).1
    exact ⟨(f p).point, hmem hp, (hrep p hp).number, hgroup, by rw [halert]; exact nofun⟩
  · obtain ⟨p, hp, rfl, hgroup, hoff⟩ := hheld n (by rw [hkept]; rfl)
    rcases hcaptured p hp G hG hgroup.symm hkept with hasked | ⟨hsame, hstays⟩
    · rw [released, hasked] at hnot
      cases hnot
    · exact ⟨(f p).point, hmem hp, (hrep p hp).number, hsame.trans hgroup, hstays hoff⟩

theorem changesOk_pointEventWith (hascend : NumbersAscend s) (hchanges : ChangesOk s) (hrep : ∀ p ∈ s.points, (f p).Reports p)
    {lead : List Nat} (hlead : lead.Nodup) (ask : Asked) : ChangesOk (pointEventWith lead ask f s) := by
  obtain ⟨hnodup, hsub⟩ := changesOk_iff.mp hchanges
  have hposted (marks : List Nat) : (posted (s.points.map f) marks).Sublist (definedNumbers s) := by
    rw [← numbers_moved hrep]
    exact List.filter_sublist.map _
  rw [changesOk_iff, definedNumbers_pointEventWith hrep]
  exact changes_post hnodup hsub (nodup_leadWith hlead (hascend.nodup.sublist (hposted _)))
    fun n hn => (hposted _).subset (mem_leadWith.mp hn)

theorem shelfOk_pointEventWith (hlist : ShelfList s.shelf) (hrep : ∀ p ∈ s.points, (f p).Reports p)
    (hdefined : s.shelf.map ShelfEntry.point ⊆ definedNumbers s)
    (hshelved : ∀ p ∈ s.points, (f p).point.state = .shelved ↔ p.number ∈ s.shelf.map ShelfEntry.point) (lead : List Nat)
    (ask : Asked) : ShelfOk (pointEventWith lead ask f s) := by
  refine shelfOk_iff.mpr ⟨hlist, fun n => ⟨fun hn => ?_, ?_⟩⟩
  · obtain ⟨p, hp, rfl⟩ := List.mem_map.mp (hdefined hn)
    exact ⟨(f p).point, List.mem_map_of_mem (List.mem_map_of_mem hp), (hrep p hp).number, (hshelved p hp).mpr hn⟩
  · rintro ⟨q, hq, hnum, hstate⟩
    obtain ⟨m, hm, rfl⟩ := List.mem_map.mp hq
    obtain ⟨p, hp, rfl⟩ := List.mem_map.mp hm
    rw [(hrep p hp).number] at hnum
    exact hnum ▸ (hshelved p hp).mp hstate

end Event

/-- What an ordinary event does to a point: it keeps the rules of its record, its group, and whether it is SHELVED. -/
structure Moved.Keeps (m : Moved) (p : Point) : Prop where
  reports : m.Reports p
  ok : PointOk p → PointOk m.point
  group : m.point.group = p.group
  shelved : m.point.state = .shelved ↔ p.state = .shelved

/-- An event whose function keeps whether each point is SHELVED keeps the agreement of all four parts. -/
theorem panelOk_of_shelved_kept {s : State} {f : Point → Moved} (h : PanelOk s) (lead : List Nat) (ask : Asked)
    (hlead : lead.Nodup) (hrep : ∀ p ∈ s.points, (f p).Reports p) (hok : ∀ p ∈ s.points, PointOk (f p).point)
    (hgroup : ∀ p ∈ s.points, (f p).point.group = p.group ∨ ¬ Marked s p)
    (hshelved : ∀ p ∈ s.points, (f p).point.state = .shelved ↔ p.state = .shelved) :
    PanelOk (pointEventWith lead ask f s) := by
  obtain ⟨⟨hascend, -⟩, hgroups, hshelf, hchanges⟩ := h
  obtain ⟨hlist, hagree⟩ := shelfOk_iff.mp hshelf
  refine ⟨tableOk_pointEventWith hascend hrep hok lead ask, groupsOk_pointEventWith hgroups hrep lead ?_,
    shelfOk_pointEventWith hlist hrep ?_ ?_ lead ask, changesOk_pointEventWith hascend hchanges hrep hlead ask⟩
  · intro p hp G hG hnum hstate
    exact .inr ⟨(hgroup p hp).resolve_right (not_not_intro ⟨G, hG, hnum, hstate⟩), mt (hshelved p hp).mp⟩
  · intro n hn
    obtain ⟨p, hp, rfl, -⟩ := (hagree n).mp hn
    exact List.mem_map_of_mem hp
  · intro p hp
    rw [hshelved p hp, hagree]
    refine ⟨fun hstate => ⟨p, hp, rfl, hstate⟩, ?_⟩
    rintro ⟨q, hq, hnum, hstate⟩
    rwa [hascend.eq_of_number hq hp hnum] at hstate

theorem panelOk_of_keeps {s : State} {f : Point → Moved} (h : PanelOk s) (ask : Asked) (hf : ∀ p ∈ s.points, (f p).Keeps p) :
    PanelOk (pointEventWith [] ask f s) :=
  panelOk_of_shelved_kept h [] ask List.nodup_nil (fun p hp => (hf p hp).reports) (fun p hp => (hf p hp).ok (h.pointOk hp))
    (fun p hp => .inl (hf p hp).group) fun p hp => (hf p hp).shelved

/-! ### The functions of the ordinary events -/

/-- Only SHELVE and UNSHELVE take a point onto the shelf or off it (R28, R30). -/
theorem respond_shelved_iff {sq : SequenceType} {c : Condition} {st : PointState} {a : Arrival} (hshelve : a ≠ .shelve)
    (hunshelve : a ≠ .unshelve) : (respond sq c st a).getD st = .shelved ↔ st = .shelved := by
  cases a with
  | shelve => exact absurd rfl hshelve
  | unshelve => exact absurd rfl hunshelve
  | abn | nrm | ack | clr => cases st <;> cases sq <;> cases c <;> decide

theorem shelved_arrive {a : Arrival} (hshelve : a ≠ .shelve) (hunshelve : a ≠ .unshelve) (p : Point) :
    (arrive a p).point.state = .shelved ↔ p.state = .shelved := by
  rw [arrive_state]
  exact respond_shelved_iff hshelve hunshelve

theorem shelved_takeCondition (c : Condition) (p : Point) : (takeCondition c p).point.state = .shelved ↔ p.state = .shelved := by
  by_cases h : p.run.condition = c
  · rw [takeCondition_same h]; rfl
  · rw [takeCondition_new h]
    exact shelved_arrive (by cases c <;> decide) (by cases c <;> decide) _

theorem keeps_still (p : Point) : (Moved.still p).Keeps p := ⟨reports_still p, id, rfl, Iff.rfl⟩

theorem keeps_ack (p : Point) : (arrive .ack p).Keeps p :=
  ⟨reports_arrive .ack p, pointOk_arrive (by decide) (by decide), congrArg Definition.group (arrive_defn .ack p),
    shelved_arrive (by decide) (by decide) p⟩

theorem keeps_clr (p : Point) : (arrive .clr p).Keeps p :=
  ⟨reports_arrive .clr p, pointOk_arrive (by decide) (by decide), congrArg Definition.group (arrive_defn .clr p),
    shelved_arrive (by decide) (by decide) p⟩

theorem keeps_takeCondition_line {p : Point} (c : Condition) (hsource : p.defn.source ≠ .host) : (takeCondition c p).Keeps p :=
  ⟨reports_takeCondition c p, fun h => pointOk_takeCondition_line h hsource,
    congrArg Definition.group (takeCondition_defn c p), shelved_takeCondition c p⟩

theorem keeps_takeAgeing {p : Point} (v : Condition) {n : Nat} {b : Bool} (hsource : p.defn.source = .host) (hage : n ≤ 3)
    (hstale : b = true ↔ n = 3) : (takeAgeing v n b p).Keeps p :=
  ⟨reports_takeAgeing v n b p, fun h => pointOk_takeAgeing h hsource hage hstale,
    congrArg Definition.group (takeAgeing_defn v n b p), shelved_takeCondition ..⟩

theorem keeps_refresh (p : Point) : (refresh p).Keeps p := by
  unfold refresh
  split
  · next hsource => exact keeps_takeAgeing _ hsource (by decide) (by decide)
  · exact keeps_still p

theorem keeps_ageByOne (p : Point) : (ageByOne p).Keeps p := by
  unfold ageByOne
  split
  · next hages => exact keeps_takeAgeing _ hages.1 hages.2 beq_iff_eq
  · exact keeps_still p

theorem keeps_takeLineState (s : State) (p : Point) : (takeLineState s p).Keeps p := by
  unfold takeLineState
  split
  · next hsource => exact keeps_takeCondition_line _ (by simp [hsource])
  · exact keeps_still p

theorem keeps_takeBatch (b : Batch) (p : Point) : (takeBatch b p).Keeps p := by
  unfold takeBatch
  split
  · exact keeps_still p
  · next hsource =>
    split
    · exact keeps_still p
    · exact keeps_takeCondition_line _ (by simp [hsource])

theorem keeps_onlyWhere {f : Point → Moved} {p : Point} (c : Point → Bool) (h : (f p).Keeps p) : (onlyWhere c f p).Keeps p := by
  unfold onlyWhere
  split
  · exact h
  · exact keeps_still p

theorem keeps_onlyPoint {f : Point → Moved} {p : Point} (n : Nat) (h : p.number = n → (f p).Keeps p) :
    (onlyPoint n f p).Keeps p := by
  unfold onlyPoint
  split
  · next hn => exact h hn
  · exact keeps_still p

end Sys2Proof.Machine
end

section
/-! SUPPORT. The events that change which points there are, which are SHELVED, or what a point's record says: each keeps the
agreement of the point table, the groups, the shelf and the change list. -/

namespace Sys2Proof.Machine

/-! ### Defining a point -/

/-- A new record in its place among records in ascending order of number (R1). -/
theorem insertPoint_eq {p : Point} {ps : List Point} (h : (ps.map Point.number).Pairwise (· < ·))
    (hnew : p.number ∉ ps.map Point.number) :
    insertPoint p ps =
      (ps.filter fun q => decide (q.number < p.number)) ++ p :: ps.filter fun q => decide (p.number < q.number) := by
  induction ps with
  | nil => rfl
  | cons q qs ih =>
    rw [List.map_cons, List.pairwise_cons] at h
    rw [List.map_cons, List.mem_cons, not_or] at hnew
    obtain ⟨hfirst, hrest⟩ := h
    obtain ⟨hne, hnew⟩ := hnew
    rcases Nat.lt_or_gt_of_ne hne with hlt | hgt
    · have hafter : ∀ x ∈ q :: qs, p.number < x.number := by
        intro x hx
        rcases List.mem_cons.mp hx with rfl | hx
        · exact hlt
        · exact hlt.trans (hfirst _ (List.mem_map_of_mem hx))
      have hnone : (q :: qs).filter (fun x => decide (x.number < p.number)) = [] :=
        List.filter_eq_nil_iff.mpr fun x hx => by simpa using (hafter x hx).le
      have hall : (q :: qs).filter (fun x => decide (p.number < x.number)) = q :: qs :=
        List.filter_eq_self.mpr fun x hx => by simpa using hafter x hx
      rw [insertPoint, if_pos hlt, hnone, hall, List.nil_append]
    · rw [insertPoint, if_neg (Nat.not_lt_of_gt hgt), ih hrest hnew, List.filter_cons_of_pos (by simpa using hgt),
        List.filter_cons_of_neg (by simpa using hgt.le), List.cons_append]

theorem mem_insertPoint {p q : Point} {ps : List Point} : q ∈ insertPoint p ps ↔ q = p ∨ q ∈ ps := by
  induction ps with
  | nil => simp [insertPoint]
  | cons x xs ih =>
    unfold insertPoint
    split
    · exact List.mem_cons
    · rw [List.mem_cons, ih, List.mem_cons]
      exact or_left_comm

theorem numbersAscend_insertPoint {p : Point} {ps : List Point} (h : (ps.map Point.number).Pairwise (· < ·))
    (hnew : p.number ∉ ps.map Point.number) : ((insertPoint p ps).map Point.number).Pairwise (· < ·) := by
  rw [insertPoint_eq h hnew, List.map_append, List.map_cons, List.pairwise_append, List.pairwise_cons]
  have hbefore : ∀ n ∈ (ps.filter fun q => decide (q.number < p.number)).map Point.number, n < p.number := by
    intro n hn
    obtain ⟨q, hq, rfl⟩ := List.mem_map.mp hn
    simpa using (List.mem_filter.mp hq).2
  have hafter : ∀ n ∈ (ps.filter fun q => decide (p.number < q.number)).map Point.number, p.number < n := by
    intro n hn
    obtain ⟨q, hq, rfl⟩ := List.mem_map.mp hn
    simpa using (List.mem_filter.mp hq).2
  refine ⟨h.sublist (List.filter_sublist.map _), ⟨hafter, h.sublist (List.filter_sublist.map _)⟩, fun a ha b hb => ?_⟩
  rcases List.mem_cons.mp hb with rfl | hb
  · exact hbefore a ha
  · exact (hbefore a ha).trans (hafter b hb)

/-- A slot is Vacant when no record has its number. -/
theorem not_mem_of_pointAt_none {s : State} {n : Nat} (h : pointAt s n = none) : n ∉ definedNumbers s := by
  intro hn
  obtain ⟨p, hp, hnum⟩ := List.mem_map.mp hn
  exact absurd (List.find?_eq_none.mp h p hp) (by simp [hnum])

/-- The record that a definition starts with (R11). -/
abbrev newPoint (d : Definition) : Point := { defn := d, run := .initial }

/-- Ageing fields at their initial values, with the condition NORMAL at a HOST point (R4, R7, R15). -/
theorem ageingOk_initial {p : Point} (hasserted : p.run.asserted = .normal) (hage : p.run.age = 0) (hstale : p.run.stale = false)
    (hcondition : p.defn.source = .host → p.run.condition = .normal) : AgeingOk p := by
  unfold AgeingOk
  split
  · next hsource =>
    refine ⟨by rw [hage]; decide, by rw [hage, hstale]; decide, ?_⟩
    rw [hcondition hsource, Runtime.hostCondition, hstale, hasserted]
    rfl
  · exact ⟨hasserted, hage, hstale⟩

theorem pointOk_newPoint {d : Definition} (hd : d.InRange) : PointOk (newPoint d) := by
  have hagrees : (PointState.normal = .alert ∨ PointState.normal = .acked) ↔ Condition.normal = .abnormal := by decide
  exact ⟨hd, ⟨nofun, nofun⟩, fun _ => hagrees, nofun, ageingOk_initial rfl rfl rfl fun _ => rfl⟩

/-- The table with the new record, before the condition of its source is taken. -/
theorem panelOk_insertPoint {s : State} (h : PanelOk s) {d : Definition} (hd : d.InRange) (hslot : pointAt s d.number = none) :
    PanelOk (s.withPoints (insertPoint (newPoint d) s.points)) := by
  obtain ⟨⟨hascend, hpoints⟩, ⟨hnumbers, hgroups⟩, hshelf, hchanges⟩ := h
  have hnew : d.number ∉ definedNumbers s := not_mem_of_pointAt_none hslot
  have hold {p : Point} (hp : p ∈ s.points) : p ∈ insertPoint (newPoint d) s.points := mem_insertPoint.mpr (.inr hp)
  refine ⟨⟨numbersAscend_insertPoint hascend hnew, fun p hp => ?_⟩, ⟨hnumbers, fun G hG => ?_⟩, ?_, hchanges.1, fun e he => ?_⟩
  · rcases mem_insertPoint.mp hp with rfl | hp
    · exact pointOk_newPoint hd
    · exact hpoints p hp
  · refine ⟨(hgroups G hG).1, fun n hn => ?_⟩
    obtain ⟨p, hp, hrest⟩ := (hgroups G hG).2 n hn
    exact ⟨p, hold hp, hrest⟩
  · obtain ⟨hlist, hagree⟩ := shelfOk_iff.mp hshelf
    refine shelfOk_iff.mpr ⟨hlist, fun n => (hagree n).trans ⟨?_, ?_⟩⟩
    · rintro ⟨p, hp, hrest⟩
      exact ⟨p, hold hp, hrest⟩
    · rintro ⟨p, hp, hnum, hstate⟩
      rcases mem_insertPoint.mp hp with rfl | hp
      · cases hstate
      · exact ⟨p, hp, hnum, hstate⟩
  · obtain ⟨p, hp, hnum⟩ := hchanges.2 e he
    exact ⟨p, hold hp, hnum⟩

/-- The condition of its source at a new record (R6, R7, R11). -/
theorem keeps_takeCondition_newPoint (s : State) (d : Definition) :
    (takeCondition (sourceCondition s d.source) (newPoint d)).Keeps (newPoint d) := by
  cases hsource : d.source with
  | host =>
    have hsame : takeCondition (sourceCondition s .host) (newPoint d) = .still (newPoint d) := takeCondition_same rfl
    rw [hsame]
    exact keeps_still _
  | line n => exact keeps_takeCondition_line _ (by simp [hsource])

theorem keeps_define {s : State} {d : Definition} (hslot : pointAt s d.number = none) {p : Point}
    (hp : p ∈ insertPoint (newPoint d) s.points) :
    (onlyPoint d.number (takeCondition (sourceCondition s d.source)) p).Keeps p := by
  refine keeps_onlyPoint _ fun hnum => ?_
  rcases mem_insertPoint.mp hp with rfl | hp
  · exact keeps_takeCondition_newPoint s d
  · exact absurd (List.mem_map.mpr ⟨p, hp, hnum⟩) (not_mem_of_pointAt_none hslot)

theorem panelOk_definePointEvent {s : State} (h : PanelOk s) {d : Definition} (hd : d.InRange)
    (hslot : pointAt s d.number = none) : PanelOk (definePointEvent d s) :=
  panelOk_of_keeps (panelOk_insertPoint h hd hslot) .nothing fun _ hp => keeps_define hslot hp

/-! ### Modifying a point -/

/-- A NORMAL point's condition is NORMAL, and it is neither stale nor silenced (R7, R27, R34). -/
theorem rest_of_normal {p : Point} (h : PointOk p) (hstate : p.state = .normal) :
    p.run.condition = .normal ∧ p.run.stale = false ∧ p.run.silenced = false := by
  obtain ⟨-, -, hagrees, hsilenced, hageing⟩ := h
  have hcondition : p.run.condition = .normal := by
    cases hc : p.run.condition with
    | normal => rfl
    | abnormal =>
      have := (hagrees (by rw [hstate]; decide)).mpr hc
      simp [hstate] at this
  refine ⟨hcondition, ?_, ?_⟩
  · unfold AgeingOk at hageing
    split at hageing
    · obtain ⟨-, -, hhost⟩ := hageing
      cases hstale : p.run.stale with
      | false => rfl
      | true => simp [Runtime.hostCondition, hstale, hcondition] at hhost
    · exact hageing.2.2
  · cases hset : p.run.silenced with
    | false => rfl
    | true => simpa [hstate] using hsilenced hset

section Modify
variable {s : State} {p : Point} {d : Definition}

theorem state_normal_of_source (hrest : restFieldsDiffer p.defn d = true → p.state = .normal ∧ firstOut s.groups p = false)
    (hsource : p.defn.source ≠ d.source) : p.state = .normal :=
  (hrest (by simp [restFieldsDiffer, hsource])).1

theorem reports_modifyRecord (hok : PointOk p) (hnumber : d.number = p.number)
    (hrest : restFieldsDiffer p.defn d = true → p.state = .normal ∧ firstOut s.groups p = false) (c : Condition) :
    (modifyRecord d c p).Reports p := by
  unfold modifyRecord
  split
  · exact (reports_still { p with defn := d }).of_agree hnumber rfl rfl
  · next hsource =>
    obtain ⟨-, hstale, -⟩ := rest_of_normal hok (state_normal_of_source hrest hsource)
    exact (reports_takeCondition c _).of_agree hnumber rfl hstale.symm

theorem pointOk_modifyRecord (hok : PointOk p) (hd : d.InRange)
    (hrest : restFieldsDiffer p.defn d = true → p.state = .normal ∧ firstOut s.groups p = false) :
    PointOk (modifyRecord d (sourceCondition s d.source) p).point := by
  unfold modifyRecord
  split
  · next hsource =>
    obtain ⟨-, ⟨hhold, hreturned⟩, hagrees, hsilenced, hageing⟩ := hok
    refine ⟨hd, ?_, hagrees, hsilenced, ?_⟩
    · change (d.sequence ≠ .lock → p.state ≠ .hold) ∧ (d.sequence ≠ .ringback → p.state ≠ .returned)
      by_cases hsequence : p.defn.sequence = d.sequence
      · rw [← hsequence]; exact ⟨hhold, hreturned⟩
      · have hnormal : p.state = .normal := (hrest (by simp [restFieldsDiffer, hsequence])).1
        rw [hnormal]; exact ⟨nofun, nofun⟩
    · rw [AgeingOk, hsource] at hageing; exact hageing
  · next hsource =>
    have hnormal := state_normal_of_source hrest hsource
    obtain ⟨-, -, hsilenced⟩ := rest_of_normal hok hnormal
    refine pointOk_takeCondition
      (p := { defn := d, run := { p.run with condition := .normal, asserted := .normal, age := 0, stale := false } })
      hd (fun hset => absurd hset (by simp [hsilenced])) ?_ ?_
    · refine ⟨fun _ => ?_, fun _ => ?_, fun _ => ?_⟩ <;> simp [hnormal]
    · exact ageingOk_initial rfl rfl rfl fun hhost => congrArg (sourceCondition s) hhost

theorem modifyRecord_defn (c : Condition) : (modifyRecord d c p).point.defn = d := by
  unfold modifyRecord
  split
  · rfl
  · exact takeCondition_defn ..

theorem shelved_modifyRecord (c : Condition) : (modifyRecord d c p).point.state = .shelved ↔ p.state = .shelved := by
  unfold modifyRecord
  split
  · rfl
  · exact shelved_takeCondition ..

/-- A point that changes its group bears no mark (R13). -/
theorem group_modifyRecord (hgroups : GroupsOk s)
    (hrest : restFieldsDiffer p.defn d = true → p.state = .normal ∧ firstOut s.groups p = false) (c : Condition) :
    (modifyRecord d c p).point.group = p.group ∨ ¬ Marked s p := by
  rw [Point.group, modifyRecord_defn]
  by_cases hgroup : p.group = d.group
  · exact .inl hgroup.symm
  · have hfirst := (hrest (by simp [restFieldsDiffer, hgroup])).2
    rw [← firstOut_iff hgroups, hfirst]
    exact .inr Bool.false_ne_true

end Modify

/-- What MODIFY-POINT does to each point of the table (R14, R15). -/
theorem onlyPoint_modifyRecord {s : State} (hascend : NumbersAscend s) {d : Definition} {p : Point}
    (hslot : pointAt s d.number = some p) {c : Condition} {P : Point → Moved → Prop}
    (hself : P p (modifyRecord d c p)) (hother : ∀ q, P q (.still q)) {q : Point} (hq : q ∈ s.points) :
    P q (onlyPoint d.number (modifyRecord d c) q) := by
  by_cases hnum : q.number = d.number
  · obtain ⟨hp, hpnum⟩ := mem_of_pointAt hslot
    obtain rfl := hascend.eq_of_number hq hp (hnum.trans hpnum.symm)
    rw [onlyPoint_self hnum]
    exact hself
  · rw [onlyPoint_other hnum]
    exact hother q

theorem panelOk_modify {s : State} (h : PanelOk s) {d : Definition} (hd : d.InRange) {p : Point}
    (hslot : pointAt s d.number = some p)
    (hrest : restFieldsDiffer p.defn d = true → p.state = .normal ∧ firstOut s.groups p = false) :
    PanelOk (pointEvent (onlyPoint d.number (modifyRecord d (sourceCondition s d.source))) s) := by
  obtain ⟨hp, hnum⟩ := mem_of_pointAt hslot
  have hpanel := h
  obtain ⟨⟨hascend, hpoints⟩, hgroups, -, -⟩ := h
  refine panelOk_of_shelved_kept hpanel [] .nothing List.nodup_nil (fun q hq => ?_) (fun q hq => ?_) (fun q hq => ?_) fun q hq => ?_
  · exact onlyPoint_modifyRecord (P := fun q m => m.Reports q) hascend hslot
      (reports_modifyRecord (hpoints p hp) hnum.symm hrest _) reports_still hq
  · refine onlyPoint_modifyRecord (P := fun q m => PointOk q → PointOk m.point) hascend hslot
      (fun hok => pointOk_modifyRecord hok hd hrest) (fun _ => id) hq (hpoints q hq)
  · exact onlyPoint_modifyRecord (P := fun q m => m.point.group = q.group ∨ ¬ Marked s q) hascend hslot
      (group_modifyRecord hgroups hrest _) (fun _ => .inl rfl) hq
  · exact onlyPoint_modifyRecord (P := fun q m => m.point.state = .shelved ↔ q.state = .shelved) hascend hslot
      (shelved_modifyRecord _) (fun _ => Iff.rfl) hq

/-! ### Retiring a point -/

theorem releaseRetired_number (p : Point) (G : Group) : (releaseRetired p G).number = G.number := by
  unfold releaseRetired
  split <;> rfl

/-- The retired point's capture, its shelf entry and its change list entry go with its record (R17). -/
theorem panelOk_retire {s : State} (h : PanelOk s) {p : Point} (hp : p ∈ s.points) : PanelOk (retire p s) := by
  obtain ⟨⟨hascend, hpoints⟩, ⟨hnumbers, hgroups⟩, hshelf, hchanges⟩ := h
  have hmem (q : Point) : q ∈ (retire p s).points ↔ q ∈ s.points ∧ q.number ≠ p.number := by
    rw [← bne_iff_ne]
    exact List.mem_filter
  refine ⟨⟨?_, fun q hq => hpoints q ((hmem q).mp hq).1⟩, ⟨?_, fun G' hG' => ?_⟩, ?_, ?_⟩
  · exact hascend.sublist (List.filter_sublist.map _)
  · refine Eq.trans (List.map_map ..) (Eq.trans (List.map_congr_left fun G _ => ?_) hnumbers)
    exact releaseRetired_number p G
  · obtain ⟨G, hG, rfl⟩ := List.mem_map.mp hG'
    obtain ⟨hdisabled, hheld⟩ := hgroups G hG
    unfold releaseRetired
    split
    · next hreleased =>
      refine ⟨⟨nofun, fun hoff => ?_⟩, nofun⟩
      rw [hdisabled.mpr hoff] at hreleased
      exact absurd hreleased.2 nofun
    · next hkept =>
      refine ⟨hdisabled, fun n hn => ?_⟩
      obtain ⟨q, hq, rfl, hgroup, hoff⟩ := hheld n hn
      have hstate : G.state = .captured q.number := by
        cases hG : G.state with
        | captured m => rw [hG] at hn; cases hn; rfl
        | armed | disabled => rw [hG] at hn; cases hn
      refine ⟨q, (hmem q).mpr ⟨hq, fun hnum => ?_⟩, rfl, hgroup, hoff⟩
      rw [hascend.eq_of_number hq hp hnum] at hgroup hstate
      exact hkept ⟨hgroup.symm, hstate⟩
  · obtain ⟨hlist, hagree⟩ := shelfOk_iff.mp hshelf
    refine shelfOk_iff.mpr ⟨hlist.sublist List.filter_sublist, fun n => ⟨fun hn => ?_, ?_⟩⟩
    · obtain ⟨e, he, rfl⟩ := List.mem_map.mp hn
      obtain ⟨hentry, hne⟩ := List.mem_filter.mp he
      obtain ⟨q, hq, hnum, hstate⟩ := (hagree e.point).mp (List.mem_map_of_mem hentry)
      exact ⟨q, (hmem q).mpr ⟨hq, by rw [hnum]; simpa using hne⟩, hnum, hstate⟩
    · rintro ⟨q, hq, rfl, hstate⟩
      obtain ⟨hq, hne⟩ := (hmem q).mp hq
      obtain ⟨e, he, hnum⟩ := List.mem_map.mp ((hagree q.number).mpr ⟨q, hq, rfl, hstate⟩)
      exact List.mem_map.mpr ⟨e, List.mem_filter.mpr ⟨he, by simpa [hnum] using hne⟩, hnum⟩
  · refine ⟨hchanges.1.sublist (List.filter_sublist.map _), fun e he => ?_⟩
    obtain ⟨hentry, hne⟩ := List.mem_filter.mp he
    obtain ⟨q, hq, hnum⟩ := hchanges.2 e hentry
    exact ⟨q, (hmem q).mpr ⟨hq, by rw [hnum]; simpa using hne⟩, hnum⟩

end Sys2Proof.Machine
end

section
/-! SUPPORT. The shelf's events, the group commands and the rest, and with them every step: the point table, the groups, the
shelf and the change list agree after it. -/

namespace Sys2Proof.Machine

/-! ### The shelf list -/

theorem mem_placeEntry {e x : ShelfEntry} {es : List ShelfEntry} : x ∈ placeEntry e es ↔ x = e ∨ x ∈ es := by
  induction es with
  | nil => simp [placeEntry]
  | cons y ys ih =>
    unfold placeEntry
    split
    · rw [List.mem_cons, ih, List.mem_cons]; exact or_left_comm
    · exact List.mem_cons

theorem placeEntry_perm (e : ShelfEntry) (es : List ShelfEntry) : (placeEntry e es).Perm (e :: es) := by
  induction es with
  | nil => exact .refl _
  | cons y ys ih =>
    unfold placeEntry
    split
    · exact (ih.cons y).trans (.swap e y ys)
    · exact .refl _

theorem sorted_placeEntry {e : ShelfEntry} {es : List ShelfEntry} (h : (es.map ShelfEntry.remaining).Pairwise (· ≤ ·)) :
    ((placeEntry e es).map ShelfEntry.remaining).Pairwise (· ≤ ·) := by
  rw [List.pairwise_map] at h ⊢
  induction es with
  | nil => exact List.pairwise_singleton ..
  | cons y ys ih =>
    obtain ⟨hfirst, hrest⟩ := List.pairwise_cons.mp h
    unfold placeEntry
    split
    · next hle =>
      refine List.pairwise_cons.mpr ⟨fun x hx => ?_, ih hrest⟩
      rcases mem_placeEntry.mp hx with rfl | hx
      · exact hle
      · exact hfirst x hx
    · next hlt =>
      refine List.pairwise_cons.mpr ⟨fun x hx => ?_, h⟩
      have hle : e.remaining ≤ y.remaining := (Nat.lt_of_not_le hlt).le
      rcases List.mem_cons.mp hx with rfl | hx
      · exact hle
      · exact hle.trans (hfirst x hx)

/-- In an ordered list the entry stands after every entry of at most its remaining and before the others (R101). -/
theorem placeEntry_eq {e : ShelfEntry} {es : List ShelfEntry} (h : (es.map ShelfEntry.remaining).Pairwise (· ≤ ·)) :
    placeEntry e es = placed e es := by
  rw [List.pairwise_map] at h
  induction es with
  | nil => rfl
  | cons y ys ih =>
    obtain ⟨hfirst, hrest⟩ := List.pairwise_cons.mp h
    unfold placeEntry placed
    split
    · next hle =>
      rw [ih hrest, placed, List.filter_cons_of_pos (by simpa using hle), List.filter_cons_of_neg (by simpa using hle),
        List.cons_append]
    · next hlt =>
      have hafter : ∀ x ∈ y :: ys, e.remaining < x.remaining := by
        intro x hx
        rcases List.mem_cons.mp hx with rfl | hx
        · exact Nat.lt_of_not_le hlt
        · exact (Nat.lt_of_not_le hlt).trans_le (hfirst x hx)
      have hnone : (y :: ys).filter (fun x => decide (x.remaining ≤ e.remaining)) = [] :=
        List.filter_eq_nil_iff.mpr fun x hx => by simpa using hafter x hx
      have hall : (y :: ys).filter (fun x => decide (e.remaining < x.remaining)) = y :: ys :=
        List.filter_eq_self.mpr fun x hx => by simpa using hafter x hx
      rw [hnone, hall, List.nil_append]

theorem ShelfList.placeEntry {es : List ShelfEntry} (h : ShelfList es) {e : ShelfEntry} (hroom : es.length < Config.shelfEntries)
    (hnew : e.point ∉ es.map ShelfEntry.point) (hlow : 1 ≤ e.remaining) (hhigh : e.remaining ≤ Config.maxMinutes) :
    ShelfList (placeEntry e es) := by
  obtain ⟨-, hnodup, hsorted, hrange⟩ := h
  have hperm := placeEntry_perm e es
  refine ⟨hperm.length_eq ▸ hroom, (hperm.map _).nodup_iff.mpr (List.nodup_cons.mpr ⟨hnew, hnodup⟩), sorted_placeEntry hsorted,
    fun x hx => ?_⟩
  rcases mem_placeEntry.mp hx with rfl | hx
  · exact ⟨hlow, hhigh⟩
  · exact hrange x hx

theorem mem_points_placeEntry {e : ShelfEntry} {es : List ShelfEntry} {n : Nat} :
    n ∈ (placeEntry e es).map ShelfEntry.point ↔ n = e.point ∨ n ∈ es.map ShelfEntry.point := by
  rw [((placeEntry_perm e es).map _).mem_iff, List.map_cons, List.mem_cons]

theorem mem_points_removeEntry {es : List ShelfEntry} {n m : Nat} :
    m ∈ (removeEntry n es).map ShelfEntry.point ↔ m ∈ es.map ShelfEntry.point ∧ m ≠ n := by
  simp only [removeEntry, List.mem_map, List.mem_filter, bne_iff_ne, and_assoc]
  constructor
  · rintro ⟨e, he, hne, rfl⟩
    exact ⟨⟨e, he, rfl⟩, hne⟩
  · rintro ⟨⟨e, he, rfl⟩, hne⟩
    exact ⟨e, he, hne, rfl⟩

/-! ### SHELVE and UNSHELVE -/

/-- An event that goes with a new shelf list: after it the SHELVED points are those that the list names (R102). -/
theorem panelOk_shelving {s u : State} {f : Point → Moved} {lead : List Nat} {ask : Asked} (h : PanelOk s)
    (hpoints : u.points = s.points) (hgroups : u.groups = s.groups) (hchanges : u.changes = s.changes)
    (hrep : ∀ p ∈ s.points, (f p).Reports p) (hok : ∀ p ∈ s.points, PointOk (f p).point)
    (hcaptured : ∀ p ∈ s.points, ∀ G ∈ s.groups, G.number = p.group → G.state = .captured p.number →
      ask.released G = true ∨ ((f p).point.group = p.group ∧ (p.state ≠ .shelved → (f p).point.state ≠ .shelved)))
    (hlist : ShelfList u.shelf) (hdefined : u.shelf.map ShelfEntry.point ⊆ definedNumbers s)
    (hshelved : ∀ p ∈ s.points, (f p).point.state = .shelved ↔ p.number ∈ u.shelf.map ShelfEntry.point) (hlead : lead.Nodup) :
    PanelOk (pointEventWith lead ask f u) := by
  obtain ⟨⟨hascend, -⟩, hgroupsOk, -, hchangesOk⟩ := h
  have hascend' : NumbersAscend u := by rw [NumbersAscend, hpoints]; exact hascend
  have hgroups' : GroupsOk u := by rw [GroupsOk, hgroups, hpoints]; exact hgroupsOk
  have hchanges' : ChangesOk u := by rw [ChangesOk, hchanges, hpoints]; exact hchangesOk
  simp only [definedNumbers, ← hpoints, ← hgroups] at hrep hok hcaptured hdefined hshelved
  exact ⟨tableOk_pointEventWith hascend' hrep hok lead ask, groupsOk_pointEventWith hgroups' hrep lead hcaptured,
    shelfOk_pointEventWith hlist hrep hdefined hshelved lead ask, changesOk_pointEventWith hascend' hchanges' hrep hlead ask⟩

section Shelving
variable {s : State} (h : PanelOk s)
include h

/-- The points that the shelf names are the SHELVED ones, which are defined (R102). -/
theorem shelf_defined : s.shelf.map ShelfEntry.point ⊆ definedNumbers s := by
  intro n hn
  obtain ⟨p, hp, rfl, -⟩ := ((shelfOk_iff.mp h.shelfOk).2 n).mp hn
  exact List.mem_map_of_mem hp

theorem mem_shelf_iff {p : Point} (hp : p ∈ s.points) : p.number ∈ s.shelf.map ShelfEntry.point ↔ p.state = .shelved := by
  refine ((shelfOk_iff.mp h.shelfOk).2 p.number).trans ⟨?_, fun hstate => ⟨p, hp, rfl, hstate⟩⟩
  rintro ⟨q, hq, hnum, hstate⟩
  rwa [h.ascend.eq_of_number hq hp hnum] at hstate

/-- A captured point that goes onto the shelf is released; the other points stay as they are (R57). -/
theorem panelOk_shelveEvent {p : Point} {m : Nat} (hp : p ∈ s.points) (hlow : 1 ≤ m) (hhigh : m ≤ Config.maxMinutes)
    (hstate : p.state ≠ .shelved) (hroom : s.shelf.length < Config.shelfEntries) : PanelOk (shelveEvent p m s) := by
  have hmem {q : Point} (hq : q ∈ s.points) := mem_shelf_iff h hq
  have hself {q : Point} (hq : q ∈ s.points) (hnum : q.number = p.number) : q = p := h.ascend.eq_of_number hq hp hnum
  refine panelOk_shelving (s := s) h rfl rfl rfl (fun q _ => reports_onlyPoint _ fun _ => reports_arrive .shelve q)
    (fun q hq => pointOk_onlyPoint _ (h.pointOk hq) fun _ => pointOk_arrive (by decide) (by decide) (h.pointOk hq))
    (fun q hq G hG hG' hheld => ?captured) ?list ?defined (fun q hq => ?shelved) List.nodup_nil
  case captured =>
    by_cases hnum : q.number = p.number
    · obtain rfl := hself hq hnum
      exact .inl (by simp [hG', hheld])
    · rw [onlyPoint_other hnum]
      exact .inr ⟨rfl, id⟩
  case list => exact h.shelfList.placeEntry hroom (mt (hmem hp).mp hstate) hlow hhigh
  case defined =>
    intro n hn
    rcases mem_points_placeEntry.mp hn with rfl | hn
    · exact List.mem_map_of_mem hp
    · exact shelf_defined h hn
  case shelved =>
    rw [State.withShelf_shelf, mem_points_placeEntry, hmem hq]
    by_cases hnum : q.number = p.number
    · rw [onlyPoint_self hnum, arrive_shelve]
      exact iff_of_true (Point.movesTo_state ..) (.inl hnum)
    · rw [onlyPoint_other hnum]
      exact (or_iff_right hnum).symm

omit h in
/-- An unshelved point is in ALERT or NORMAL (R30). -/
theorem arrive_unshelve_ne {p : Point} (hstate : p.state = .shelved) : (arrive .unshelve p).point.state ≠ .shelved := by
  rw [arrive_unshelve, afterUnshelve, if_pos hstate, Point.movesTo_state]
  split <;> decide

theorem panelOk_unshelveEvent {p : Point} (hp : p ∈ s.points) (hstate : p.state = .shelved) :
    PanelOk (unshelveEvent p.number s) := by
  have hmem {q : Point} (hq : q ∈ s.points) := mem_shelf_iff h hq
  have hself {q : Point} (hq : q ∈ s.points) (hnum : q.number = p.number) : q = p := h.ascend.eq_of_number hq hp hnum
  refine panelOk_shelving (s := s) h rfl rfl rfl (fun q _ => reports_onlyPoint _ fun _ => reports_arrive .unshelve q)
    (fun q hq => pointOk_onlyPoint _ (h.pointOk hq) fun _ => pointOk_arrive (by decide) (by decide) (h.pointOk hq))
    (fun q hq G hG hG' hheld => ?captured) ?list ?defined (fun q hq => ?shelved) List.nodup_nil
  case captured =>
    by_cases hnum : q.number = p.number
    · obtain rfl := hself hq hnum
      rw [onlyPoint_self rfl]
      exact .inr ⟨congrArg Definition.group (arrive_defn .unshelve q), fun hoff => absurd hstate hoff⟩
    · rw [onlyPoint_other hnum]
      exact .inr ⟨rfl, id⟩
  case list => exact h.shelfList.sublist List.filter_sublist
  case defined => exact fun n hn => shelf_defined h (mem_points_removeEntry.mp hn).1
  case shelved =>
    rw [State.withShelf_shelf, mem_points_removeEntry, hmem hq]
    by_cases hnum : q.number = p.number
    · obtain rfl := hself hq hnum
      rw [onlyPoint_self rfl]
      exact iff_of_false (arrive_unshelve_ne hstate) fun hboth => hboth.2 rfl
    · rw [onlyPoint_other hnum]
      exact (and_iff_left hnum).symm

theorem panelOk_reshelveEvent {p : Point} {m : Nat} (hp : p ∈ s.points) (hlow : 1 ≤ m) (hhigh : m ≤ Config.maxMinutes)
    (hstate : p.state = .shelved) : PanelOk (reshelveEvent p.number m s) := by
  have hmem := (mem_shelf_iff h hp).mpr hstate
  obtain ⟨htable, hgroups, hshelf, hchanges⟩ := h
  obtain ⟨hlist, hagree⟩ := shelfOk_iff.mp hshelf
  have hroom : (removeEntry p.number s.shelf).length < Config.shelfEntries := by
    obtain ⟨e, he, hnum⟩ := List.mem_map.mp hmem
    exact (List.length_filter_lt_length_iff_exists.mpr ⟨e, he, by simp [hnum]⟩).trans_le hlist.1
  refine ⟨htable, hgroups, shelfOk_iff.mpr ⟨?_, fun n => ?_⟩, hchanges⟩
  · exact (hlist.sublist List.filter_sublist).placeEntry hroom (fun hn => (mem_points_removeEntry.mp hn).2 rfl) hlow hhigh
  · change _ ∈ (placeEntry _ (removeEntry p.number s.shelf)).map _ ↔ Shelved s n
    rw [mem_points_placeEntry, mem_points_removeEntry, ← hagree]
    constructor
    · rintro (rfl | ⟨hn, -⟩)
      · exact hmem
      · exact hn
    · intro hn
      by_cases hnum : n = p.number
      · exact .inl hnum
      · exact .inr ⟨hn, hnum⟩

end Shelving

/-! ### The minute expiry -/

theorem points_lowered (es : List ShelfEntry) : (lowered es).map ShelfEntry.point = es.map ShelfEntry.point :=
  List.map_map ..

/-- A lowered list is in order, and its entries stay in their range but for those that run out (R109). -/
theorem ShelfList.lowered {es : List ShelfEntry} (h : ShelfList es) :
    ShelfList ((lowered es).filter fun e => e.remaining != 0) := by
  obtain ⟨hlength, hnodup, hsorted, hrange⟩ := h
  have hlowered : ((Machine.lowered es).map ShelfEntry.remaining).Pairwise (· ≤ ·) := by
    rw [List.pairwise_map] at hsorted ⊢
    exact List.pairwise_map.mpr (hsorted.imp fun hle => Nat.sub_le_sub_right hle 1)
  refine ⟨?_, ?_, hlowered.sublist (List.filter_sublist.map _), fun e he => ?_⟩
  · exact List.filter_sublist.length_le.trans ((List.length_map ..).trans_le hlength)
  · rw [← points_lowered] at hnodup
    exact hnodup.sublist (List.filter_sublist.map _)
  · obtain ⟨hmem, hne⟩ := List.mem_filter.mp he
    obtain ⟨x, hx, rfl⟩ := List.mem_map.mp hmem
    exact ⟨Nat.one_le_iff_ne_zero.mpr (by simpa using hne), (Nat.sub_le ..).trans (hrange x hx).2⟩

theorem nodup_runOut {es : List ShelfEntry} (h : ShelfList es) : (runOut es).Nodup := by
  obtain ⟨-, hnodup, -⟩ := h
  rw [← points_lowered] at hnodup
  exact hnodup.sublist (List.filter_sublist.map _)

/-- Of the points on the shelf, some run out and the others stay (R109). -/
theorem mem_lowered_iff {es : List ShelfEntry} (h : ShelfList es) {n : Nat} :
    n ∈ ((lowered es).filter fun e => e.remaining != 0).map ShelfEntry.point ↔
      n ∈ es.map ShelfEntry.point ∧ n ∉ runOut es := by
  obtain ⟨-, hnodup, -⟩ := h
  rw [← points_lowered es] at hnodup ⊢
  simp only [runOut, List.mem_map, List.mem_filter, bne_iff_ne, beq_iff_eq, and_assoc]
  constructor
  · rintro ⟨e, he, hne, rfl⟩
    refine ⟨⟨e, he, rfl⟩, ?_⟩
    rintro ⟨x, hx, hzero, hnum⟩
    exact hne (List.inj_on_of_nodup_map hnodup hx he hnum ▸ hzero)
  · rintro ⟨⟨e, he, rfl⟩, hstays⟩
    exact ⟨e, he, fun hzero => hstays ⟨e, he, hzero, rfl⟩, rfl⟩

theorem mem_of_mem_runOut {es : List ShelfEntry} {n : Nat} (h : n ∈ runOut es) : n ∈ es.map ShelfEntry.point := by
  rw [← points_lowered]
  exact (List.filter_sublist.map _).subset h

theorem panelOk_minute {s : State} (h : PanelOk s) :
    PanelOk (pointEventWith (runOut s.shelf) .nothing
      (onlyWhere (fun p => (runOut s.shelf).contains p.number) (arrive .unshelve))
      ((s.withShelf ((lowered s.shelf).filter fun e => e.remaining != 0)).withTime { s.time with minuteCount := 0 })) := by
  have hmem {q : Point} (hq : q ∈ s.points) := mem_shelf_iff h hq
  have hlist := h.shelfList
  have hout (q : Point) : onlyWhere (fun p => (runOut s.shelf).contains p.number) (arrive .unshelve) q =
      if q.number ∈ runOut s.shelf then arrive .unshelve q else .still q := by
    simp only [onlyWhere, List.contains_iff_mem]
  have hoff {q : Point} (hq : q ∈ s.points) (hruns : q.number ∈ runOut s.shelf) : q.state = .shelved :=
    (hmem hq).mp (mem_of_mem_runOut hruns)
  refine panelOk_shelving (s := s) h rfl rfl rfl (fun q _ => reports_onlyWhere _ (reports_arrive .unshelve q))
    (fun q hq => pointOk_onlyWhere _ (h.pointOk hq) (pointOk_arrive (by decide) (by decide) (h.pointOk hq)))
    (fun q hq G hG hG' hheld => ?captured) ?list ?defined (fun q hq => ?shelved) (nodup_runOut hlist)
  case captured =>
    rw [hout]
    split
    · next hruns =>
      exact .inr ⟨congrArg Definition.group (arrive_defn .unshelve q), fun hstays => absurd (hoff hq hruns) hstays⟩
    · exact .inr ⟨rfl, id⟩
  case list => exact hlist.lowered
  case defined => exact fun n hn => shelf_defined h ((mem_lowered_iff hlist).mp hn).1
  case shelved =>
    rw [State.withTime_shelf, State.withShelf_shelf, mem_lowered_iff hlist, hmem hq, hout]
    split
    · next hruns => exact iff_of_false (arrive_unshelve_ne (hoff hq hruns)) fun hboth => hboth.2 hruns
    · next hstays => exact (and_iff_left hstays).symm

/-! ### The group commands, SILENCE, RESTART and CONFIGURE-INPUT -/

theorem panelOk_releaseEvent {s : State} (h : PanelOk s) (g : Nat) : PanelOk (releaseEvent g s) :=
  panelOk_of_keeps h _ fun p _ => keeps_still p

/-- A group written anew captures nothing, and is DISABLED exactly when it is not enabled (R59). -/
theorem groupsOk_updateGroup {s : State} (h : GroupsOk s) (g : Nat) (e : Bool) (r : Release) :
    GroupsOk (s.withGroups (updateGroup g (fun G => G.configure e r) s.groups)) := by
  obtain ⟨hnumbers, hgroups⟩ := h
  refine ⟨Eq.trans (List.map_map ..) (Eq.trans (List.map_congr_left fun G _ => ?_) hnumbers), fun G' hG' => ?_⟩
  · simp only [Function.comp]
    split <;> rfl
  · obtain ⟨G, hG, rfl⟩ := List.mem_map.mp hG'
    split
    · exact ⟨by cases e <;> simp [Group.configure], by cases e <;> exact nofun⟩
    · exact hgroups G hG

theorem panelOk_configureGroupEvent {s : State} (h : PanelOk s) (g : Nat) (e : Bool) (r : Release) :
    PanelOk (configureGroupEvent g e r s) := by
  obtain ⟨htable, hgroups, hshelf, hchanges⟩ := panelOk_releaseEvent h g
  exact ⟨htable, groupsOk_updateGroup hgroups g e r, hshelf, hchanges⟩

@[simp] theorem silencePoint_defn (sc : Scope) (p : Point) : (silencePoint sc p).defn = p.defn := by
  unfold silencePoint; split <;> rfl
@[simp] theorem silencePoint_state (sc : Scope) (p : Point) : (silencePoint sc p).state = p.state := by
  unfold silencePoint; split <;> rfl

theorem pointOk_silencePoint {p : Point} (h : PointOk p) (sc : Scope) : PointOk (silencePoint sc p) := by
  unfold silencePoint
  split
  · next hset =>
    obtain ⟨hrange, hsequence, hagrees, -, hageing⟩ := h
    refine ⟨hrange, hsequence, hagrees, fun _ => ?_, hageing⟩
    have hstate : p.state.silenceable = true := ((Bool.and_eq_true ..).mp ((Bool.and_eq_true ..).mp hset).1).2
    change p.state = .alert ∨ p.state = .cleared ∨ p.state = .returned
    cases hst : p.state <;> simp [hst, PointState.silenceable] at hstate ⊢
  · exact h

/-- A table whose records keep their numbers, groups and states. -/
theorem panelOk_map_points {s : State} (h : PanelOk s) {f : Point → Point} (hnumber : ∀ p, (f p).number = p.number)
    (hgroup : ∀ p, (f p).group = p.group) (hstate : ∀ p, (f p).state = p.state) (hok : ∀ p, PointOk p → PointOk (f p)) :
    PanelOk (s.withPoints (s.points.map f)) := by
  obtain ⟨⟨hascend, hpoints⟩, ⟨hnumbers, hgroups⟩, hshelf, hchanges⟩ := h
  have hdefined : (s.points.map f).map Point.number = definedNumbers s :=
    Eq.trans (List.map_map ..) (List.map_congr_left fun p _ => hnumber p)
  refine ⟨⟨?_, fun q hq => ?_⟩, ⟨hnumbers, fun G hG => ⟨(hgroups G hG).1, fun n hn => ?_⟩⟩, ?_, ?_⟩
  · change ((s.points.map f).map Point.number).Pairwise (· < ·)
    rwa [hdefined]
  · obtain ⟨p, hp, rfl⟩ := List.mem_map.mp hq
    exact hok p (hpoints p hp)
  · obtain ⟨p, hp, hnum, hmember, hoff⟩ := (hgroups G hG).2 n hn
    exact ⟨f p, List.mem_map_of_mem hp, (hnumber p).trans hnum, (hgroup p).trans hmember, (hstate p).symm ▸ hoff⟩
  · obtain ⟨hlist, hagree⟩ := shelfOk_iff.mp hshelf
    refine shelfOk_iff.mpr ⟨hlist, fun n => (hagree n).trans ⟨?_, ?_⟩⟩
    · rintro ⟨p, hp, hnum, hst⟩
      exact ⟨f p, List.mem_map_of_mem hp, (hnumber p).trans hnum, (hstate p).trans hst⟩
    · rintro ⟨q, hq, hnum, hst⟩
      obtain ⟨p, hp, rfl⟩ := List.mem_map.mp hq
      exact ⟨p, hp, (hnumber p).symm.trans hnum, (hstate p).symm.trans hst⟩
  · refine changesOk_iff.mpr ⟨hchanges.1, ?_⟩
    change _ ⊆ (s.points.map f).map Point.number
    rw [hdefined]
    exact (changesOk_iff.mp hchanges).2

theorem panelOk_silenceEvent {s : State} (h : PanelOk s) (sc : Scope) : PanelOk (silenceEvent sc s) :=
  panelOk_map_points h (fun p => congrArg Definition.number (silencePoint_defn sc p))
    (fun p => congrArg Definition.group (silencePoint_defn sc p)) (silencePoint_state sc) fun _ hp => pointOk_silencePoint hp sc

/-- RESTART leaves every point NORMAL, nothing shelved, listed or captured (R202). -/
theorem panelOk_restartEvent {s : State} (h : PanelOk s) : PanelOk (restartEvent s) := by
  obtain ⟨⟨hascend, hpoints⟩, ⟨hnumbers, hgroups⟩, -, -⟩ := h
  refine ⟨⟨?_, fun q hq => ?_⟩, ⟨?_, fun G' hG' => ?_⟩, shelfOk_iff.mpr ⟨?_, fun n => ?_⟩, List.nodup_nil, nofun⟩
  · have hdefined : (s.points.map Point.restarted).map Point.number = definedNumbers s := List.map_map ..
    change ((s.points.map Point.restarted).map Point.number).Pairwise (· < ·)
    rwa [hdefined]
  · obtain ⟨p, hp, rfl⟩ := List.mem_map.mp hq
    exact pointOk_newPoint (hpoints p hp).1
  · exact Eq.trans (List.map_map ..) hnumbers
  · obtain ⟨G, hG, rfl⟩ := List.mem_map.mp hG'
    simp only [Group.restarted]
    split
    · next hon => exact ⟨by simp [hon], nofun⟩
    · next hoff => exact ⟨by simp [hoff], nofun⟩
  · exact ⟨Nat.zero_le _, List.nodup_nil, .nil, nofun⟩
  · refine iff_of_false List.not_mem_nil ?_
    rintro ⟨q, hq, -, hstate⟩
    obtain ⟨p, -, rfl⟩ := List.mem_map.mp hq
    cases hstate

theorem panelOk_deliver {s : State} (h : PanelOk s) (b : Batch) : PanelOk (deliver b s) :=
  panelOk_of_keeps h .nothing fun p _ => keeps_takeBatch b p

theorem panelOk_reconfigureLine {s : State} (h : PanelOk s) (n : Nat) (c : LineSettings) : PanelOk (reconfigureLine n c s) := by
  have hlines : PanelOk (s.withLines (updateLine n (fun L => L.configure c) s.lines)) := h
  unfold reconfigureLine
  dsimp only
  split
  · exact hlines
  · exact panelOk_deliver hlines _

/-! ### Every step -/

theorem panelOk_keyEvent {s : State} (h : PanelOk s) (k : ActionKey) : PanelOk (keyEvent k s) := by
  cases k with
  | ack => exact panelOk_of_keeps h .nothing fun p _ => keeps_onlyWhere _ (keeps_ack p)
  | silence => exact panelOk_silenceEvent h .all
  | clear => exact panelOk_of_keeps h _ fun p _ => keeps_onlyWhere _ (keeps_clr p)

theorem panelOk_occurs {s t : State} (h : Occurs s t) (hs : PanelOk s) : PanelOk t := by
  cases h with
  | batch => exact panelOk_deliver hs _
  | key k => exact panelOk_keyEvent (s := s.withKeys (s.keys.takeDue k)) hs k
  | lease => exact panelOk_of_keeps hs .nothing fun p _ => keeps_ageByOne p
  | minute => exact panelOk_minute hs
  | settle => exact panelOk_of_keeps hs .nothing fun p _ => keeps_takeLineState s p
  | frame => exact panelOk_congr (takeFrame_points ..) (takeFrame_groups ..) (takeFrame_shelf ..) (takeFrame_changes ..) hs
  | frameAhead =>
    exact panelOk_congr (takeFrame_points ..) (takeFrame_groups ..) (takeFrame_shelf ..) (takeFrame_changes ..) hs
  | _ => exact hs

theorem points_markInFlight (c : Nat) (es : List ChangeEntry) :
    (markInFlight c es).map ChangeEntry.point = es.map ChangeEntry.point := by
  conv_rhs => rw [← List.take_append_drop c es]
  rw [markInFlight, List.map_append, List.map_append, List.map_map]
  rfl

theorem panelOk_admitted {marking : Prop} {s t : State} (h : Admitted marking s t) (hs : PanelOk s) : PanelOk t := by
  cases h with
  | marks =>
    obtain ⟨htable, hgroups, hshelf, hchanges⟩ := hs
    refine ⟨htable, hgroups, hshelf, changesOk_iff.mpr ?_⟩
    rw [State.withChanges_changes, points_markInFlight]
    exact changesOk_iff.mp hchanges
  | restart => exact panelOk_restartEvent hs
  | define hd hslot => exact panelOk_definePointEvent hs hd hslot
  | modify hslot hd hrest => exact panelOk_modify hs hd hslot hrest
  | retire hp => exact panelOk_retire hs hp
  | assert v hslot hsource =>
    refine panelOk_of_keeps hs .nothing fun q hq => keeps_onlyPoint _ fun hnum => ?_
    obtain rfl := hs.ascend.eq_of_number hq (mem_of_pointAt hslot).1 hnum
    exact keeps_takeAgeing v hsource (by decide) (by decide)
  | refresh => exact panelOk_of_keeps hs .nothing fun p _ => keeps_refresh p
  | lease =>
    exact panelOk_of_keeps (s := s.withTime { s.time with leaseInterval := _, leaseCount := 0 }) hs .nothing
      fun p _ => keeps_refresh p
  | acknowledge sc => exact panelOk_of_keeps hs .nothing fun p _ => keeps_onlyWhere _ (keeps_ack p)
  | silence sc => exact panelOk_silenceEvent hs sc
  | clear sc => exact panelOk_of_keeps hs _ fun p _ => keeps_onlyWhere _ (keeps_clr p)
  | shelve hp hlow hhigh hstate hroom => exact panelOk_shelveEvent hs hp hlow hhigh hstate hroom
  | reshelve hp hlow hhigh hstate => exact panelOk_reshelveEvent hs hp hlow hhigh hstate
  | unshelve hp hstate => exact panelOk_unshelveEvent hs hp hstate
  | configureGroup e r => exact panelOk_configureGroupEvent hs _ e r
  | releaseGroup => exact panelOk_releaseEvent hs _
  | configureInput =>
    exact panelOk_reconfigureLine (panelOk_occurs .rest ((happens_conditionBatch s).keeps panelOk_occurs hs)) ..
  | _ => exact hs

/-- The entries that the end of a READ-CHANGES keeps are entries of the list (R174). -/
theorem points_settleEntries_sublist (n i : Nat) (es : List ChangeEntry) :
    ((settleEntries n i es).map ChangeEntry.point).Sublist (es.map ChangeEntry.point) := by
  induction es generalizing i with
  | nil => exact .refl _
  | cons e es ih =>
    unfold settleEntries
    split
    · exact (ih (i + 1)).cons _
    · exact (ih (i + 1)).cons_cons _

theorem kept_panelOk : Kept PanelOk where
  within _ h := h
  reset := ⟨by decide, by decide, by decide, by decide⟩
  admitted _ h := panelOk_admitted h
  flags _ h := h
  removed {s} n h := by
    obtain ⟨htable, hgroups, hshelf, hchanges⟩ := h
    obtain ⟨hnodup, hsub⟩ := changesOk_iff.mp hchanges
    have hkept := points_settleEntries_sublist n 0 s.changes
    exact ⟨htable, hgroups, hshelf, changesOk_iff.mpr ⟨hnodup.sublist hkept, fun n hn => hsub (hkept.subset hn)⟩⟩
  occurs := panelOk_occurs
  advanced h := h
  counted _ h := h
  ticked _ _ _ _ h := h

end Sys2Proof.Machine
end

section
/-! The statement about the point table, the groups, the shelf and the change list. -/

namespace Sys2Proof.Proofs
open Sys2Proof.Machine

/-- Settles O6. -/
theorem stepKeepsPanel : Obligations.StepKeepsPanel := fun _ _ hpanel h => kept_panelOk.step h hpanel

end Sys2Proof.Proofs
end

section
/-! SUPPORT. A host command whose effect is one event of the point table, in the words of the statements; and the scopes of R35. -/

namespace Sys2Proof.Machine

/-! ### A command whose effect is an event -/

/-- A command that only READY admits, whose effect is an event of the point table in `u`. -/
theorem exec_pointEventWith {i : Instr} {s u : State} {bytes results : List Byte} {effect : State → Answer} {st : Status}
    {lead order : List Nat} {ask : Asked} {f : Point → Moved} {g : Point → Point} {asked : Group → Prop}
    (hexec : exec i s = atTaking (taken bytes (unlessBusy effect)) s) (hrec : Receptive s)
    (heffect : effect s = { status := st, results := results, state := pointEventWith lead ask f u })
    (hascend : NumbersAscend u) (hgroups : GroupsOk u) (hrep : ∀ p ∈ u.points, (f p).Reports p)
    (hpoint : ∀ p, (f p).point = g p) (hkeeps : ∀ p ∈ u.points, (f p).point.group = p.group ∨ ¬ Marked u p)
    (hasked : ∀ G ∈ u.groups, G.state.capturedPoint ≠ none →
      ((ask.released G = true ∨ (ask.cleared G = true ∧ noUnacknowledged (u.points.map f) G.number = true)) ↔ asked G))
    (horder : leadWith lead (definedNumbers u) = order) :
    ∃ t, exec i s = .next t ∧ PanelEvent (answered u bytes st results) t g asked order := by
  obtain ⟨hopen, hready⟩ := hrec
  refine ⟨restHorns (pointEventWith lead ask f (answered u bytes st results)), ?_,
    panelEvent_pointEventWith (s := answered u bytes st results) hascend hgroups hrep hpoint hkeeps hasked horder⟩
  rw [hexec, atTaking_open hopen]
  simp only [taken, unlessBusy_ready hready, heffect]
  rfl

/-- The same for a usual event. -/
theorem exec_pointEvent {i : Instr} {s u : State} {bytes results : List Byte} {effect : State → Answer} {st : Status}
    {f : Point → Moved} {g : Point → Point} (hexec : exec i s = atTaking (taken bytes (unlessBusy effect)) s) (hrec : Receptive s)
    (heffect : effect s = { status := st, results := results, state := pointEvent f u })
    (hascend : NumbersAscend u) (hgroups : GroupsOk u) (hrep : ∀ p ∈ u.points, (f p).Reports p)
    (hpoint : ∀ p, (f p).point = g p) (hkeeps : ∀ p ∈ u.points, (f p).point.group = p.group ∨ ¬ Marked u p) :
    ∃ t, exec i s = .next t ∧ PanelEvent (answered u bytes st results) t g nobody (definedNumbers u) :=
  exec_pointEventWith hexec hrec heffect hascend hgroups hrep hpoint hkeeps (fun _ _ _ => by simp [Asked.nothing])
    (leadWith_nil _)

/-- The record that an event at one point leaves. -/
theorem onlyPoint_point {f : Point → Moved} {g : Point → Point} (n : Nat) (h : ∀ p, (f p).point = g p) (p : Point) :
    (onlyPoint n f p).point = if p.number = n then g p else p := by
  unfold onlyPoint
  split
  · exact h p
  · rfl

theorem group_onlyPoint {f : Point → Moved} (n : Nat) (h : ∀ p, (f p).point.defn = p.defn) (p : Point) :
    (onlyPoint n f p).point.group = p.group := by
  unfold onlyPoint
  split
  · exact congrArg Definition.group (h p)
  · rfl

theorem group_onlyWhere {f : Point → Moved} (c : Point → Bool) (h : ∀ p, (f p).point.defn = p.defn) (p : Point) :
    (onlyWhere c f p).point.group = p.group := by
  unfold onlyWhere
  split
  · exact congrArg Definition.group (h p)
  · rfl

/-! ### Scopes -/

/-- The three kinds of scope operand, and the others (R35). -/
theorem scopeOf_cases (b : Byte) :
    (ScopeUnlisted b ∧ scopeOf b = none) ∨ (b.toNat ≤ 0x3F ∧ scopeOf b = some (.point b.toNat)) ∨
    ((0x81 ≤ b.toNat ∧ b.toNat ≤ 0x88) ∧ scopeOf b = some (.group (b.toNat - 0x80))) ∨ (b = 0xFF ∧ scopeOf b = some .all) := by
  unfold scopeOf
  split
  · next hpoint => exact .inr (.inl ⟨hpoint, rfl⟩)
  split
  · next hgroup => exact .inr (.inr (.inl ⟨hgroup, rfl⟩))
  split
  · next hall => exact .inr (.inr (.inr ⟨hall, rfl⟩))
  · next hpoint hgroup hall => exact .inl ⟨⟨Nat.lt_of_not_le hpoint, hgroup, hall⟩, rfl⟩

theorem scopeOf_unlisted {b : Byte} (h : ScopeUnlisted b) : scopeOf b = none := by
  obtain ⟨hpoint, hgroup, hall⟩ := h
  obtain ⟨-, hnone⟩ | ⟨hle, -⟩ | ⟨hin, -⟩ | ⟨heq, -⟩ := scopeOf_cases b
  · exact hnone
  · exact absurd hle (Nat.not_le_of_lt hpoint)
  · exact absurd hin hgroup
  · exact absurd heq hall

theorem scopeOf_point {b : Byte} (h : b.toNat ≤ 0x3F) : scopeOf b = some (.point b.toNat) := if_pos h

theorem ne_all_of_toNat {b : Byte} (h : b.toNat ≠ 255) : b ≠ 0xFF := by
  rintro rfl
  exact h rfl

/-- The points that an accepted scope covers (R35). -/
theorem covers_iff {b : Byte} {sc : Scope} (h : scopeOf b = some sc) (p : Point) : sc.covers p = true ↔ Covers b p := by
  obtain ⟨-, hsc⟩ | ⟨hpoint, hsc⟩ | ⟨hgroup, hsc⟩ | ⟨rfl, hsc⟩ := scopeOf_cases b <;> cases hsc.symm.trans h
  · have hall : b ≠ 0xFF := ne_all_of_toNat (by omega)
    simp only [Scope.covers, Covers, beq_iff_eq, hpoint, hall, true_and, or_false]
    refine ⟨.inl, ?_⟩
    rintro (hnum | ⟨hlow, -⟩)
    · exact hnum
    · omega
  · have hall : b ≠ 0xFF := ne_all_of_toNat (by omega)
    simp only [Scope.covers, Covers, beq_iff_eq, hgroup, hall, true_and, or_false]
    refine ⟨.inr, ?_⟩
    rintro (⟨hlow, -⟩ | hnum)
    · omega
    · exact hnum
  · exact iff_of_true rfl (.inr (.inr rfl))

theorem withScope_unlisted {b : Byte} (h : ScopeUnlisted b) (count : Scope → State → Nat) (event : Scope → State → State)
    (s : State) : withScope b count event s = .refuse s .badArgument := by
  unfold withScope
  rw [scopeOf_unlisted h]

theorem withScope_vacant {b : Byte} {s : State} (h : ScopeVacant s b) (count : Scope → State → Nat)
    (event : Scope → State → State) : withScope b count event s = .refuse s .vacant := by
  obtain ⟨hle, hslot⟩ := h
  unfold withScope
  rw [scopeOf_point hle]
  simp only [hslot, Option.isNone_none, if_true]

/-- An accepted scope: the event, answered with the count (R36). -/
theorem withScope_accepted {b : Byte} {s : State} (h : ScopeAccepted s b) (count : Scope → State → Nat)
    (event : Scope → State → State) :
    ∃ sc, scopeOf b = some sc ∧
      withScope b count event s = { status := .ok, results := [byteOf (count sc s)], state := event sc s } := by
  obtain ⟨⟨hpoint, hgroup, hall⟩, -⟩ | ⟨hle, hsc⟩ | ⟨-, hsc⟩ | ⟨-, hsc⟩ := scopeOf_cases b
  · rcases h with ⟨hle, -⟩ | hin | heq
    · exact absurd hle (Nat.not_le_of_lt hpoint)
    · exact absurd hin hgroup
    · exact absurd heq hall
  · have hslot : (pointAt s b.toNat).isNone = false := by
      rcases h with ⟨-, hsome⟩ | ⟨hlow, -⟩ | rfl
      · rw [Option.isNone_eq_false_iff]; exact hsome
      · omega
      · exact absurd hle (by decide)
    refine ⟨_, hsc, ?_⟩
    unfold withScope
    rw [hsc]
    simp only [hslot, Bool.false_eq_true, if_false]
  · exact ⟨_, hsc, by unfold withScope; rw [hsc]⟩
  · exact ⟨_, hsc, by unfold withScope; rw [hsc]⟩

/-- How many points an event moved is how many records have another state after it (R36). -/
theorem movedCount_eq {s : State} {f : Point → Moved} {g : Point → Point} (hrep : ∀ p ∈ s.points, (f p).Reports p)
    (hpoint : ∀ p, (f p).point = g p) : movedCount f s = s.points.countP fun p => decide ((g p).state ≠ p.state) := by
  refine List.countP_congr fun p hp => ?_
  rw [(hrep p hp).changed, hpoint, decide_eq_true_iff]

theorem onlyWhere_point {f : Point → Moved} {g : Point → Point} {c : Point → Bool} {P : Point → Prop} [DecidablePred P]
    (hc : ∀ p, c p = true ↔ P p) (h : ∀ p, (f p).point = g p) (p : Point) :
    (onlyWhere c f p).point = if P p then g p else p := by
  unfold onlyWhere
  by_cases hp : P p
  · rw [if_pos hp, if_pos ((hc p).mpr hp)]; exact h p
  · rw [if_neg hp, if_neg (mt (hc p).mp hp)]; rfl

/-- The groups that a CLEAR asks to release, where a captured point is a member (R40, R48). -/
theorem clearAsks_iff {s : State} (hascend : NumbersAscend s) (hgroups : GroupsOk s) {b : Byte} {sc : Scope}
    (h : scopeOf b = some sc) {G : Group} (hG : G ∈ s.groups) : clearAsks sc G (scopePoint s sc) = true ↔ ClearCovers b G := by
  obtain ⟨-, hsc⟩ | ⟨hpoint, hsc⟩ | ⟨hgroup, hsc⟩ | ⟨rfl, hsc⟩ := scopeOf_cases b <;> cases hsc.symm.trans h
  · have hall : b ≠ 0xFF := ne_all_of_toNat (by omega)
    have hmember : G.state = .captured b.toNat → (pointAt s b.toNat).any (fun q => q.group == G.number) = true := by
      intro hstate
      obtain ⟨p, hp, hnum, hgroup, -⟩ := (hgroups.2 G hG).2 b.toNat (by rw [hstate]; rfl)
      rw [← hnum, pointAt_number hascend hp, Option.any_some, beq_iff_eq]
      exact hgroup
    simp only [clearAsks, scopePoint, Bool.and_eq_true, beq_iff_eq, ClearCovers, hall, hpoint, true_and, false_or]
    refine ⟨fun hboth => .inr hboth.1, ?_⟩
    rintro (⟨hlow, -⟩ | hstate)
    · omega
    · exact ⟨hstate, hmember hstate⟩
  · have hall : b ≠ 0xFF := ne_all_of_toNat (by omega)
    simp only [clearAsks, beq_iff_eq, ClearCovers, hall, hgroup, true_and, false_or]
    refine ⟨.inl, ?_⟩
    rintro (hnum | ⟨hlow, -⟩)
    · exact hnum
    · omega
  · exact iff_of_true rfl (.inl rfl)

/-! ### ASSERT and the refreshes -/

theorem conditionOf_of_le {b : Byte} (h : b.toNat ≤ 1) :
    conditionOf b = some (if b = 0x01 then .abnormal else .normal) := by
  rw [conditionOf, twoValued_of_le h, Option.map_some]
  simp only [decide_eq_true_eq]

theorem conditionOf_of_lt {b : Byte} (h : 1 < b.toNat) : conditionOf b = none := by
  rw [conditionOf, twoValued_of_lt h, Option.map_none]

theorem assertPoint_badArgument {point value : Byte} (h : 63 < point.toNat ∨ 1 < value.toNat) (s : State) :
    assertPoint point value s = .refuse s .badArgument := by
  unfold assertPoint
  rcases h with hpoint | hvalue
  · rw [pointOf_of_lt hpoint]
  · rw [conditionOf_of_lt hvalue]
    cases pointOf point <;> rfl

end Sys2Proof.Machine
end

section
/-! ASSERT, REFRESH-ALL, CONFIGURE-LEASE and the lease expiry. -/

namespace Sys2Proof.Proofs
open Sys2Proof.Machine

/-- Settles O32, down the checks of R90. -/
theorem assert : Obligations.Assert := by
  intro s point value hrec hwaves hpanel n v
  refine ⟨fun hbad => exec_of_effect_ready rfl hrec (assertPoint_badArgument hbad s) hwaves, fun hn hv hslot => ?vacant,
    fun p hp hv => ?defined⟩
  case vacant =>
    have hnone : pointAt s point.toNat = none := hslot
    have heffect : assertPoint point value s = .refuse s .vacant := by
      simp only [assertPoint, pointOf_of_le hn, conditionOf_of_le hv, hnone]
    exact exec_of_effect_ready rfl hrec heffect hwaves
  case defined =>
    have hslot : pointAt s point.toNat = some p := hp
    obtain ⟨hmem, hnum⟩ := mem_of_pointAt hslot
    have hn : point.toNat ≤ 63 := hnum ▸ Nat.le_of_lt_succ (number_lt_of_tableOk hpanel.tableOk hmem)
    refine ⟨fun hsource => ?_, fun hsource => ?_⟩
    · have heffect : assertPoint point value s = .refuse s .wrongSource := by
        simp only [assertPoint, pointOf_of_le hn, conditionOf_of_le hv, hslot, if_neg hsource]
      exact exec_of_effect_ready rfl hrec heffect hwaves
    · have heffect : assertPoint point value s = .ok (pointEvent (onlyPoint n (takeAgeing v 0 false)) s) := by
        simp only [assertPoint, pointOf_of_le hn, conditionOf_of_le hv, hslot, if_pos hsource]
        rfl
      exact exec_pointEvent rfl hrec heffect hpanel.ascend hpanel.groupsOk
        (fun q _ => reports_onlyPoint _ fun _ => reports_takeAgeing v 0 false q) (onlyPoint_point n (takeAgeing_point v 0 false))
        fun q _ => .inl (group_onlyPoint n (takeAgeing_defn v 0 false) q)

/-- Settles O33: both are the one refresh event, the second with a new interval and count. -/
theorem refreshAndLease : Obligations.RefreshAndLease := by
  intro s interval hrec hpanel
  have hgroup (p : Point) : (refresh p).point.group = p.group := congrArg Definition.group (refresh_defn p)
  constructor
  · exact exec_pointEvent (effect := fun s => .ok (pointEvent refresh s)) rfl hrec rfl hpanel.ascend hpanel.groupsOk
      (fun p _ => reports_refresh p) refresh_point fun p _ => .inl (hgroup p)
  · exact exec_pointEvent (u := { s with time := { s.time with leaseInterval := interval.toNat, leaseCount := 0 } })
      (effect := configureLease interval) rfl hrec rfl hpanel.ascend hpanel.groupsOk
      (fun p _ => reports_refresh p) refresh_point fun p _ => .inl (hgroup p)

/-- Settles O34: the expiry ages in one event, after the count and the flag have been written. -/
theorem leaseExpiry : Obligations.LeaseExpiry := by
  intro s hwaves hpanel due
  have hdue : leaseDue s = true ↔ due := by
    rw [leaseDue, Bool.and_eq_true, bne_iff_ne, decide_eq_true_iff]
    rfl
  constructor
  · intro h
    have hturns : s.points.any turnsStale = true ↔ ∃ p ∈ s.points, p.defn.source = .host ∧ p.run.age = 2 := by
      simp only [List.any_eq_true, turnsStale, Bool.and_eq_true, beq_iff_eq, Config.staleAge, Nat.succ_inj]
    have hexpiry : Machine.leaseExpiry s = pointEvent ageByOne
        { s with
          time := { s.time with leaseCount := 0 }
          flags :=
            if ∃ p ∈ s.points, p.defn.source = .host ∧ p.run.age = 2 then
              { s.flags with staleSeen := { isSet := true, reported := false } }
            else s.flags } := by
      rw [Machine.leaseExpiry, if_pos (hdue.mpr h)]
      by_cases hstale : s.points.any turnsStale = true
      · simp only [if_pos hstale, if_pos (hturns.mp hstale)]
        rfl
      · simp only [if_neg hstale, if_neg (mt hturns.mpr hstale)]
        rfl
    refine ⟨_, congrArg (fun t => Host.Outcome.next (restHorns t)) hexpiry, ?_⟩
    exact panelEvent_pointEvent (g := afterLeaseExpiry) hpanel.ascend hpanel.groupsOk (fun p _ => reports_ageByOne p) ageByOne_point
      fun p _ => .inl (keeps_ageByOne p).group
  · intro h
    rw [exec_rowEvent (f := Machine.leaseExpiry) rfl, leaseExpiry_idle (eq_false_of_ne_true (mt hdue.mp h)),
      restHorns_of_wavesOk hwaves]

end Sys2Proof.Proofs
end

section
/-! ACKNOWLEDGE and CLEAR. -/

namespace Sys2Proof.Proofs
open Sys2Proof.Machine

/-- Settles O36, down the checks of R35. -/
theorem acknowledge : Obligations.Acknowledge := by
  intro s scope hrec hwaves hpanel f
  refine ⟨fun h => exec_of_effect_ready rfl hrec (withScope_unlisted h ..) hwaves,
    fun h => exec_of_effect_ready rfl hrec (withScope_vacant h ..) hwaves, fun h => ?_⟩
  obtain ⟨sc, hsc, heffect⟩ := withScope_accepted h ackCount acknowledgeEvent
  have hrep : ∀ p ∈ s.points, (ackPoints sc p).Reports p := fun p _ => reports_onlyWhere _ (reports_arrive .ack p)
  have hpoint : ∀ p, (ackPoints sc p).point = f p := onlyWhere_point (covers_iff hsc) arrive_ack
  rw [ackCount, movedCount_eq hrep hpoint] at heffect
  exact exec_pointEvent rfl hrec heffect hpanel.ascend hpanel.groupsOk hrep hpoint
    fun p _ => .inl (group_onlyWhere _ (arrive_defn .ack) p)

/-- Settles O38, down the checks of R35; the release requests are decided on the states that the CLR arrivals leave. -/
theorem clear : Obligations.Clear := by
  intro s scope hrec hwaves hpanel f
  refine ⟨fun h => exec_of_effect_ready rfl hrec (withScope_unlisted h ..) hwaves,
    fun h => exec_of_effect_ready rfl hrec (withScope_vacant h ..) hwaves, fun h => ?_⟩
  obtain ⟨sc, hsc, heffect⟩ := withScope_accepted h clearCount clearEvent
  have hrep : ∀ p ∈ s.points, (clearPoints sc p).Reports p := fun p _ => reports_onlyWhere _ (reports_arrive .clr p)
  have hpoint : ∀ p, (clearPoints sc p).point = f p := onlyWhere_point (covers_iff hsc) arrive_clr
  rw [clearCount, movedCount_eq hrep hpoint] at heffect
  refine exec_pointEventWith rfl hrec heffect hpanel.ascend hpanel.groupsOk hrep hpoint
    (fun p _ => .inl (group_onlyWhere _ (arrive_defn .clr) p)) (fun G hG _ => ?_) (leadWith_nil _)
  simp only [Bool.false_eq_true, false_or, clearAsks_iff hpanel.ascend hpanel.groupsOk hsc hG, noUnacknowledged_iff,
    List.forall_mem_map, hpoint]

end Sys2Proof.Proofs
end

section
/-! SUPPORT. The checks of the commands that name a point (R10, R13, R103, R107). -/

namespace Sys2Proof.Machine

/-- A point that a slot number finds has this number, which is below 64. -/
theorem le_of_pointAt {s : State} (h : TableOk s) {n : Nat} {p : Point} (hslot : pointAt s n = some p) : n ≤ 63 := by
  obtain ⟨hp, hnum⟩ := mem_of_pointAt hslot
  have hlt := number_lt_of_tableOk h hp
  omega

/-! ### SHELVE and UNSHELVE -/

theorem shelvePoint_badArgument {point minutes : Byte} (h : 63 < point.toNat ∨ minutes.toNat = 0 ∨ 240 < minutes.toNat)
    (s : State) : shelvePoint point minutes s = .refuse s .badArgument := by
  unfold shelvePoint
  rcases h with hpoint | hminutes
  · rw [pointOf_of_lt hpoint]
  · have hnone : numberIn 1 Config.maxMinutes minutes = none := numberIn_of_lt (by simp only [Config.maxMinutes]; omega)
    rw [hnone]
    cases pointOf point <;> rfl

section InRange
variable {point minutes : Byte} {s : State} (hpoint : point.toNat ≤ 63) (hlow : 1 ≤ minutes.toNat) (hhigh : minutes.toNat ≤ 240)
include hpoint hlow hhigh

theorem shelvePoint_vacant (hslot : pointAt s point.toNat = none) : shelvePoint point minutes s = .refuse s .vacant := by
  have hminutes : numberIn 1 Config.maxMinutes minutes = some minutes.toNat := numberIn_of_mem hlow hhigh
  simp only [shelvePoint, pointOf_of_le hpoint, hminutes, hslot]

/-- SHELVE of a Defined slot goes on to the point's shelvable flag, its state and the room on the shelf (R103). -/
theorem shelvePoint_defined {p : Point} (hslot : pointAt s point.toNat = some p) :
    shelvePoint point minutes s =
      if p.defn.shelvable = false then .refuse s .notShelvable
      else if p.state = .shelved then .ok (reshelveEvent point.toNat minutes.toNat s)
      else if 16 ≤ s.shelf.length then .refuse s .shelfFull
      else .ok (shelveEvent p minutes.toNat s) := by
  have hminutes : numberIn 1 Config.maxMinutes minutes = some minutes.toNat := numberIn_of_mem hlow hhigh
  simp only [shelvePoint, pointOf_of_le hpoint, hminutes, hslot]
  rfl

end InRange

theorem removeEntry_eq (n : Nat) (es : List ShelfEntry) : removeEntry n es = es.filter fun x => decide (x.point ≠ n) :=
  List.filter_congr fun x _ => by rw [Bool.eq_iff_iff, bne_iff_ne, decide_eq_true_iff]

end Sys2Proof.Machine
end

section
/-! SHELVE and UNSHELVE. -/

namespace Sys2Proof.Proofs
open Sys2Proof.Machine

/-- Settles O40, down the checks of R103; a re-shelve touches nothing that the horns read. -/
theorem shelve : Obligations.Shelve := by
  intro s point minutes hrec hwaves hpanel n e
  refine ⟨fun hbad => exec_of_effect_ready rfl hrec (shelvePoint_badArgument hbad s) hwaves, fun hn hlow hhigh hslot => ?vacant,
    fun p hp hlow hhigh => ?defined⟩
  case vacant => exact exec_of_effect_ready rfl hrec (shelvePoint_vacant hn hlow hhigh hslot) hwaves
  case defined =>
    have hslot : pointAt s point.toNat = some p := hp
    obtain ⟨hmem, hnum⟩ := mem_of_pointAt hslot
    have hinRange := shelvePoint_defined (le_of_pointAt hpanel.tableOk hslot) hlow hhigh hslot
    obtain ⟨-, -, hsorted, -⟩ := hpanel.shelfList
    refine ⟨fun hfixed => ?_, fun hshelvable hstate => ?_, fun hshelvable hstate hfull => ?_, fun hshelvable hstate hroom => ?_⟩
    · exact exec_of_effect_ready rfl hrec (hinRange.trans (if_pos hfixed)) hwaves
    · have hplaced : reshelveEvent n minutes.toNat s = { s with shelf := placed e (s.shelf.filter fun x => decide (x.point ≠ n)) } := by
        rw [reshelveEvent, removeEntry_eq, placeEntry_eq (hsorted.sublist (List.filter_sublist.map _))]
        rfl
      have heffect : shelvePoint point minutes s = .ok (reshelveEvent n minutes.toNat s) :=
        hinRange.trans ((if_neg (by simp [hshelvable])).trans (if_pos hstate))
      rw [hplaced] at heffect
      exact exec_of_effect_ready rfl hrec heffect hwaves
    · have heffect : shelvePoint point minutes s = .refuse s .shelfFull :=
        hinRange.trans ((if_neg (by simp [hshelvable])).trans ((if_neg hstate).trans (if_pos hfull.ge)))
      exact exec_of_effect_ready rfl hrec heffect hwaves
    · have heffect : shelvePoint point minutes s = .ok (shelveEvent p minutes.toNat s) :=
        hinRange.trans ((if_neg (by simp [hshelvable])).trans ((if_neg hstate).trans (if_neg (Nat.not_le_of_lt hroom))))
      have hasked : ∀ G ∈ s.groups, (G.number == p.group && G.state == .captured p.number) = true ↔ G.state = .captured n := by
        intro G hG
        rw [Bool.and_eq_true, beq_iff_eq, beq_iff_eq, hnum]
        refine ⟨And.right, fun hheld => ⟨marked_of_captured hpanel.ascend hpanel.groupsOk hmem hG (hnum.symm ▸ hheld), hheld⟩⟩
      rw [shelveEvent, hnum, placeEntry_eq hsorted] at heffect
      exact exec_pointEventWith (u := { s with shelf := placed e s.shelf }) rfl hrec heffect hpanel.ascend hpanel.groupsOk
        (fun q _ => reports_onlyPoint _ fun _ => reports_arrive .shelve q) (onlyPoint_point n arrive_shelve)
        (fun q _ => .inl (group_onlyPoint n (arrive_defn .shelve) q))
        (fun G hG _ => by simpa [hnum] using hasked G hG) (leadWith_nil _)

/-- Settles O41, down the checks of R107. -/
theorem unshelve : Obligations.Unshelve := by
  intro s point hrec hwaves hpanel n
  refine ⟨fun hbad => ?badArgument, fun hn hslot => ?vacant, fun p hp => ?defined⟩
  case badArgument =>
    have heffect : unshelvePoint point s = .refuse s .badArgument := by rw [unshelvePoint, pointOf_of_lt hbad]
    exact exec_of_effect_ready rfl hrec heffect hwaves
  case vacant =>
    have hnone : pointAt s point.toNat = none := hslot
    have heffect : unshelvePoint point s = .refuse s .vacant := by simp only [unshelvePoint, pointOf_of_le hn, hnone]
    exact exec_of_effect_ready rfl hrec heffect hwaves
  case defined =>
    have hslot : pointAt s point.toNat = some p := hp
    have hn : point.toNat ≤ 63 := le_of_pointAt hpanel.tableOk hslot
    refine ⟨fun hstate => ?_, fun hstate => ?_⟩
    · have heffect : unshelvePoint point s = .refuse s .wrongState := by
        simp only [unshelvePoint, pointOf_of_le hn, hslot, if_neg hstate]
      exact exec_of_effect_ready rfl hrec heffect hwaves
    · have heffect : unshelvePoint point s = .ok (unshelveEvent n s) := by
        simp only [unshelvePoint, pointOf_of_le hn, hslot, if_pos hstate]
        rfl
      rw [unshelveEvent, removeEntry_eq] at heffect
      exact exec_pointEvent (u := { s with shelf := s.shelf.filter fun e => decide (e.point ≠ n) }) rfl hrec heffect
        hpanel.ascend hpanel.groupsOk (fun q _ => reports_onlyPoint _ fun _ => reports_arrive .unshelve q)
        (onlyPoint_point n arrive_unshelve) fun q _ => .inl (group_onlyPoint n (arrive_defn .unshelve) q)

end Sys2Proof.Proofs
end

section
/-! SUPPORT. The checks of DEFINE-POINT, MODIFY-POINT and RETIRE-POINT (R10, R13, R17). -/

namespace Sys2Proof.Machine

theorem sourceCondition_eq (s : State) (x : Source) : sourceCondition s x = definedCondition s x := by
  cases x <;> rfl

/-! ### DEFINE-POINT -/

theorem definePoint_badNumber {b : DefBlock} (h : 63 < b.number.toNat) (s : State) :
    definePoint b s = .refuse s .badArgument := by
  rw [definePoint, pointOf_of_lt h]

section Define
variable {b : DefBlock} {s : State} (hnumber : b.number.toNat ≤ 63)
include hnumber

theorem definePoint_occupied (hslot : pointAt s b.number.toNat ≠ none) : definePoint b s = .refuse s .occupied := by
  simp only [definePoint, pointOf_of_le hnumber, if_pos (Option.isSome_iff_ne_none.mpr hslot)]

theorem definePoint_outOfRange (hslot : pointAt s b.number.toNat = none) (hrange : ¬ BlockInRange b) :
    definePoint b s = .refuse s .badArgument := by
  simp only [definePoint, pointOf_of_le hnumber, hslot, definitionOf_outOfRange hrange, Option.isSome_none, Bool.false_eq_true,
    if_false]

theorem definePoint_accepted (hslot : pointAt s b.number.toNat = none) (hrange : BlockInRange b) :
    definePoint b s = .ok (definePointEvent (definitionWritten b) s) := by
  simp only [definePoint, pointOf_of_le hnumber, hslot, definitionOf_inRange hrange, Option.isSome_none, Bool.false_eq_true,
    if_false]

end Define

/-! ### MODIFY-POINT -/

theorem restFieldsDiffer_iff (d e : Definition) :
    restFieldsDiffer d e = true ↔ e.source ≠ d.source ∨ e.sequence ≠ d.sequence ∨ e.group ≠ d.group := by
  simp only [restFieldsDiffer, Bool.or_eq_true, bne_iff_ne, or_assoc, ne_comm]

theorem modifyPoint_badNumber {b : DefBlock} (h : 63 < b.number.toNat) (s : State) :
    modifyPoint b s = .refuse s .badArgument := by
  rw [modifyPoint, pointOf_of_lt h]

section Modify
variable {b : DefBlock} {s : State} (hnumber : b.number.toNat ≤ 63)
include hnumber

theorem modifyPoint_vacant (hslot : pointAt s b.number.toNat = none) : modifyPoint b s = .refuse s .vacant := by
  simp only [modifyPoint, pointOf_of_le hnumber, hslot]

theorem modifyPoint_outOfRange {p : Point} (hslot : pointAt s b.number.toNat = some p) (hrange : ¬ BlockInRange b) :
    modifyPoint b s = .refuse s .badArgument := by
  simp only [modifyPoint, pointOf_of_le hnumber, hslot, definitionOf_outOfRange hrange]

/-- MODIFY-POINT of a Defined slot with fields in range goes on to the checks of the point's state (R13). -/
theorem modifyPoint_inRange {p : Point} (hslot : pointAt s b.number.toNat = some p) (hrange : BlockInRange b) :
    modifyPoint b s =
      if (restFieldsDiffer p.defn (definitionWritten b) && (p.state != .normal || firstOut s.groups p)) = true then
        .refuse s .wrongState
      else if (!(definitionWritten b).shelvable && p.state == .shelved) = true then .refuse s .wrongState
      else .ok (pointEvent (onlyPoint b.number.toNat
        (modifyRecord (definitionWritten b) (sourceCondition s (definitionWritten b).source))) s) := by
  simp only [modifyPoint, pointOf_of_le hnumber, hslot, definitionOf_inRange hrange]

end Modify

/-- The record that MODIFY-POINT leaves (R14, R15). -/
theorem modifyRecord_point (d : Definition) (c : Condition) (p : Point) :
    (modifyRecord d c p).point =
      if p.defn.source = d.source then { p with defn := d }
      else afterCondition c { defn := d, run := { p.run with condition := .normal, asserted := .normal, age := 0, stale := false } } := by
  unfold modifyRecord
  split
  · rfl
  · exact takeCondition_point ..

/-! ### RETIRE-POINT -/

theorem retirePoint_badNumber {point : Byte} (h : 63 < point.toNat) (s : State) :
    retirePoint point s = .refuse s .badArgument := by
  rw [retirePoint, pointOf_of_lt h]

theorem retirePoint_vacant {point : Byte} {s : State} (hnumber : point.toNat ≤ 63) (hslot : pointAt s point.toNat = none) :
    retirePoint point s = .refuse s .vacant := by
  simp only [retirePoint, pointOf_of_le hnumber, hslot]

theorem retirePoint_defined {point : Byte} {s : State} (hnumber : point.toNat ≤ 63) {p : Point}
    (hslot : pointAt s point.toNat = some p) :
    retirePoint point s = if p.state = .normal ∨ p.state = .shelved then .ok (retire p s) else .refuse s .wrongState := by
  simp only [retirePoint, pointOf_of_le hnumber, hslot]

/-- A retired point is in neither ALERT, CLEARED nor RETURN, so that no horn falls silent and none begins to sound. -/
theorem requesting_of_rest {p : Point} (h : p.state = .normal ∨ p.state = .shelved) (k : HornId) : requesting k p = false := by
  rw [← Bool.not_eq_true, requesting_iff]
  rintro ⟨-, -, hstate⟩
  cases k with
  | horn1 => rcases h with h | h <;> simp [Unacknowledged, h] at hstate
  | horn2 => rcases h with h | h <;> simp [h] at hstate

/-- Whether a horn sounds turns on the requesting points alone. -/
theorem sounding_congr_points {s t : State} (h : HornId) (houtput : t.output = s.output) (htime : t.time = s.time)
    (hpoints : t.points.filter (requesting h) = s.points.filter (requesting h)) : sounding t h = sounding s h := by
  have hrequest (u : State) : hornRequest u h = !(u.points.filter (requesting h)).isEmpty := by
    rw [hornRequest, Bool.eq_iff_iff, Bool.not_eq_true', ← Bool.not_eq_true, List.isEmpty_iff, List.filter_eq_nil_iff]
    simp
  simp only [sounding, hrequest, governing, houtput, htime, hpoints]

/-- The retirement in the words of R17. -/
theorem retire_eq {s : State} (hascend : NumbersAscend s) (hgroups : GroupsOk s) {p : Point} (hp : p ∈ s.points) :
    retire p s =
      { s with
        points := s.points.filter fun q => decide (q.number ≠ p.number)
        shelf := s.shelf.filter fun e => decide (e.point ≠ p.number)
        changes := s.changes.filter fun e => decide (e.point ≠ p.number)
        groups := s.groups.map fun G => if G.state = .captured p.number then { G with state := .armed } else G } := by
  have hreleased : s.groups.map (releaseRetired p) =
      s.groups.map fun G => if G.state = .captured p.number then { G with state := .armed } else G := by
    refine List.map_congr_left fun G hG => if_congr ⟨And.right, fun hheld => ⟨?_, hheld⟩⟩ rfl rfl
    exact marked_of_captured hascend hgroups hp hG hheld
  have hpoints : (s.points.filter fun q => q.number != p.number) = s.points.filter fun q => decide (q.number ≠ p.number) :=
    List.filter_congr fun q _ => by rw [Bool.eq_iff_iff, bne_iff_ne, decide_eq_true_iff]
  have hshelf : (s.shelf.filter fun e => e.point != p.number) = s.shelf.filter fun e => decide (e.point ≠ p.number) :=
    List.filter_congr fun e _ => by rw [Bool.eq_iff_iff, bne_iff_ne, decide_eq_true_iff]
  have hchanges : (s.changes.filter fun e => e.point != p.number) = s.changes.filter fun e => decide (e.point ≠ p.number) :=
    List.filter_congr fun e _ => by rw [Bool.eq_iff_iff, bne_iff_ne, decide_eq_true_iff]
  rw [retire, hreleased, hpoints, hshelf, hchanges]

/-- A retirement leaves the horns as they are. -/
theorem wavesOk_retire {s : State} (hascend : NumbersAscend s) {p : Point} (hp : p ∈ s.points)
    (hstate : p.state = .normal ∨ p.state = .shelved) (h : WavesOk s) : WavesOk (retire p s) := by
  have hsounding (k : HornId) : sounding (retire p s) k = sounding s k := by
    refine sounding_congr_points k rfl rfl ?_
    refine Eq.trans (List.filter_filter ..) (List.filter_congr fun q hq => ?_)
    by_cases hnum : q.number = p.number
    · rw [hascend.eq_of_number hq hp hnum, requesting_of_rest hstate]
      rfl
    · simp [hnum]
  obtain ⟨h1, h2⟩ := h
  exact ⟨fun hs => h1 (hsounding .horn1 ▸ hs), fun hs => h2 (hsounding .horn2 ▸ hs)⟩

end Sys2Proof.Machine
end

section
/-! DEFINE-POINT, MODIFY-POINT and RETIRE-POINT. -/

namespace Sys2Proof.Proofs
open Sys2Proof.Machine

/-- Settles O27, down the checks of R10; accepted, the new record stands in its place and takes the condition of its source. -/
theorem definePoint : Obligations.DefinePoint := by
  intro s b hrec hwaves hpanel hw n d u
  have hexec : exec (.definePoint b) s = atTaking (taken (0x10 :: blockBytes b) (unlessBusy (Machine.definePoint b))) s := if_pos hw
  refine ⟨fun hbad => exec_of_effect_ready hexec hrec (definePoint_badNumber hbad s) hwaves,
    fun hn hslot => exec_of_effect_ready hexec hrec (definePoint_occupied hn hslot) hwaves,
    fun hn hslot hrange => exec_of_effect_ready hexec hrec (definePoint_outOfRange hn hslot hrange) hwaves,
    fun hn hslot hrange => ?_⟩
  have hd : d.InRange := definitionWritten_inRange hn hw hrange
  have hu : s.withPoints (insertPoint (newPoint d) s.points) = u := by
    rw [insertPoint_eq hpanel.ascend (not_mem_of_pointAt_none hslot)]
    rfl
  have hpanel' : PanelOk u := hu ▸ panelOk_insertPoint hpanel hd hslot
  have hkeeps : ∀ p ∈ u.points, (onlyPoint n (takeCondition (definedCondition s d.source)) p).Keeps p := by
    intro p hp
    rw [← sourceCondition_eq]
    rw [← hu] at hp
    exact keeps_define hslot hp
  have heffect : Machine.definePoint b s = .ok (pointEvent (onlyPoint n (takeCondition (definedCondition s d.source))) u) := by
    rw [definePoint_accepted hn hslot hrange, definePointEvent, sourceCondition_eq, ← hu]
    rfl
  exact exec_pointEvent hexec hrec heffect hpanel'.ascend hpanel'.groupsOk (fun p hp => (hkeeps p hp).reports)
    (onlyPoint_point n (takeCondition_point _)) fun p hp => .inl (hkeeps p hp).group

/-- Settles O28, down the checks of R13. -/
theorem modifyPoint : Obligations.ModifyPoint := by
  intro s b hrec hwaves hpanel hw n d
  have hexec : exec (.modifyPoint b) s = atTaking (taken (0x11 :: blockBytes b) (unlessBusy (Machine.modifyPoint b))) s := if_pos hw
  refine ⟨fun hbad => exec_of_effect_ready hexec hrec (modifyPoint_badNumber hbad s) hwaves,
    fun hn hslot => exec_of_effect_ready hexec hrec (modifyPoint_vacant hn hslot) hwaves, fun p hp => ?_⟩
  intro moves
  have hslot : pointAt s b.number.toNat = some p := hp
  have hn := le_of_pointAt hpanel.tableOk hslot
  obtain ⟨hmem, hnum⟩ := mem_of_pointAt hslot
  have hmoves : restFieldsDiffer p.defn d = true ↔ moves := restFieldsDiffer_iff ..
  have hmark : firstOut s.groups p = true ↔ Marked s p := firstOut_iff hpanel.groupsOk p
  have hunrested : (restFieldsDiffer p.defn d && (p.state != .normal || firstOut s.groups p)) = true ↔
      moves ∧ (p.state ≠ .normal ∨ Marked s p) := by
    rw [Bool.and_eq_true, Bool.or_eq_true, bne_iff_ne, hmoves, hmark]
  have hunshelvable : (!d.shelvable && p.state == .shelved) = true ↔ d.shelvable = false ∧ p.state = .shelved := by
    rw [Bool.and_eq_true, Bool.not_eq_true', beq_iff_eq]
  refine ⟨fun hrange => exec_of_effect_ready hexec hrec (modifyPoint_outOfRange hn hslot hrange) hwaves,
    fun hrange hwrong => ?wrongState, fun hrange hrest hshelvable => ?accepted⟩
  case wrongState =>
    have heffect : Machine.modifyPoint b s = .refuse s .wrongState := by
      rw [modifyPoint_inRange hn hslot hrange]
      by_cases hfirst : moves ∧ (p.state ≠ .normal ∨ Marked s p)
      · exact if_pos (hunrested.mpr hfirst)
      · rw [if_neg (mt hunrested.mp hfirst), if_pos (hunshelvable.mpr (hwrong.resolve_left hfirst))]
    exact exec_of_effect_ready hexec hrec heffect hwaves
  case accepted =>
    have heffect : Machine.modifyPoint b s =
        .ok (pointEvent (onlyPoint n (modifyRecord d (definedCondition s d.source))) s) := by
      have hrested : ¬ (moves ∧ (p.state ≠ .normal ∨ Marked s p)) := by
        rintro ⟨hm, hstate | hmarked⟩
        · exact hstate (hrest hm).1
        · exact (hrest hm).2 hmarked
      have hok : ¬ (d.shelvable = false ∧ p.state = .shelved) := by
        rintro ⟨hno, hstate⟩
        rw [hshelvable hstate] at hno
        cases hno
      rw [modifyPoint_inRange hn hslot hrange, if_neg (mt hunrested.mp hrested), if_neg (mt hunshelvable.mp hok),
        sourceCondition_eq]
    have hrest' : restFieldsDiffer p.defn d = true → p.state = .normal ∧ firstOut s.groups p = false := by
      intro hdiff
      obtain ⟨hnormal, hunmarked⟩ := hrest (hmoves.mp hdiff)
      exact ⟨hnormal, eq_false_of_ne_true (mt hmark.mp hunmarked)⟩
    refine exec_pointEvent hexec hrec heffect hpanel.ascend hpanel.groupsOk (fun q hq => ?reports) (fun q => ?point)
      fun q hq => ?group
    case reports =>
      exact onlyPoint_modifyRecord (P := fun q m => m.Reports q) hpanel.ascend hslot
        (reports_modifyRecord (hpanel.pointOk hmem) hnum.symm hrest' _) reports_still hq
    case point =>
      rw [onlyPoint_point n (modifyRecord_point d _)]
      by_cases hq : q.number = n
      · rw [if_pos hq, if_neg (not_not_intro hq)]
      · rw [if_neg hq, if_pos hq]
    case group =>
      exact onlyPoint_modifyRecord (P := fun q m => m.point.group = q.group ∨ ¬ Marked s q) hpanel.ascend hslot
        (group_modifyRecord hpanel.groupsOk hrest' _) (fun _ => .inl rfl) hq

/-- Settles O29, down the checks of R17. -/
theorem retirePoint : Obligations.RetirePoint := by
  intro s point hrec hwaves hpanel n
  refine ⟨fun hbad => exec_of_effect_ready rfl hrec (retirePoint_badNumber hbad s) hwaves,
    fun hn hslot => exec_of_effect_ready rfl hrec (retirePoint_vacant hn hslot) hwaves, fun p hp => ?_⟩
  have hslot : pointAt s point.toNat = some p := hp
  obtain ⟨hmem, hnum⟩ := mem_of_pointAt hslot
  have hdefined := retirePoint_defined (le_of_pointAt hpanel.tableOk hslot) hslot
  refine ⟨fun hnormal hshelved => ?_, fun hstate => ?_⟩
  · exact exec_of_effect_ready rfl hrec (hdefined.trans (if_neg (not_or.mpr ⟨hnormal, hshelved⟩))) hwaves
  · have hwaves' := wavesOk_retire hpanel.ascend hmem hstate hwaves
    rw [if_pos hstate] at hdefined
    rw [retire_eq hpanel.ascend hpanel.groupsOk hmem, hnum] at hdefined hwaves'
    exact exec_of_effect_ready rfl hrec hdefined hwaves'

end Sys2Proof.Proofs
end

section
/-! SUPPORT. The events of time that reach the point table: the minute expiry, the condition batch and the settle end; and
CONFIGURE-INPUT, which delivers one line. -/

namespace Sys2Proof.Machine

/-! ### An event that moves no point -/

theorem offers_still (ps : List Point) (g : Nat) : offers (ps.map Moved.still) g = [] := by
  rw [offers, List.filter_eq_nil_iff.mpr, List.map_nil]
  intro m hm
  obtain ⟨p, -, rfl⟩ := List.mem_map.mp hm
  exact Bool.false_ne_true

theorem memberChanged_still (ps : List Point) (g : Nat) : memberChanged (ps.map Moved.still) g = false := by
  refine List.any_eq_false.mpr fun m hm => ?_
  obtain ⟨p, -, rfl⟩ := List.mem_map.mp hm
  exact Bool.false_ne_true

theorem alert_still (ps : List Point) : (ps.map Moved.still).any Moved.alert = false := by
  refine List.any_eq_false.mpr fun m hm => ?_
  obtain ⟨p, -, rfl⟩ := List.mem_map.mp hm
  exact Bool.false_ne_true

theorem points_still (ps : List Point) : (ps.map Moved.still).map Moved.point = ps := by
  rw [List.map_map]
  exact List.map_id' ps

/-- Such an event posts the points whose marks it moves, and no other. -/
theorem posted_still (ps : List Point) (marks : List Nat) :
    posted (ps.map Moved.still) marks = (ps.map Point.number).filter fun n => marks.contains n := by
  rw [posted, List.filter_map, List.map_map, List.filter_map]
  rfl

/-- Nothing asked and nothing moved, a group stays as it is. -/
theorem decideGroup_still (ps : List Point) (G : Group) : decideGroup (ps.map Moved.still) .nothing G = G := by
  unfold decideGroup
  split
  · rfl
  · rw [offers_still]
    rfl
  · simp only [released, memberChanged_still, Asked.nothing, Bool.false_and, Bool.and_false, Bool.or_self, Bool.false_eq_true,
      if_false]

theorem markMoved_self (G : Group) : markMoved G G = none := by
  cases h : G.state <;> simp [markMoved, h]

/-- An event whose function leaves every point as it is changes nothing. -/
theorem pointEvent_of_still {s : State} {f : Point → Moved} (h : ∀ p ∈ s.points, f p = .still p) : pointEvent f s = s := by
  have hmoved : s.points.map f = s.points.map Moved.still := List.map_congr_left h
  have hgroups : s.groups.map (decideGroup (s.points.map Moved.still) .nothing) = s.groups :=
    (List.map_congr_left fun G _ => decideGroup_still s.points G).trans (List.map_id' s.groups)
  have hmarks : (s.groups.filterMap fun G => markMoved G (decideGroup (s.points.map Moved.still) .nothing G)) = [] :=
    List.filterMap_eq_nil_iff.mpr fun G _ => by rw [decideGroup_still, markMoved_self]
  have hposted : posted (s.points.map Moved.still) [] = [] := by
    rw [posted_still]
    exact List.filter_eq_nil_iff.mpr fun _ _ => Bool.false_ne_true
  simp only [pointEvent_eq, pointEventWith, hmoved, points_still, hgroups, hmarks, hposted, leadWith_nil, post_nil, alert_still,
    gapAfter, Bool.false_and, Bool.false_eq_true, if_false]

/-! ### The minute expiry -/

section Minute
variable {es : List ShelfEntry} (h : ShelfList es)
include h

theorem runOut_eq : runOut es = (es.filter fun e => decide (e.remaining = 1)).map ShelfEntry.point := by
  obtain ⟨-, -, -, hrange⟩ := h
  rw [runOut, lowered, List.filter_map, List.map_map]
  refine congrArg (List.map ShelfEntry.point) (List.filter_congr fun e he => ?_)
  have hlow := (hrange e he).1
  rw [Bool.eq_iff_iff, Function.comp, beq_iff_eq, decide_eq_true_iff]
  dsimp only
  omega

theorem lowered_eq :
    ((lowered es).filter fun e => e.remaining != 0) =
      (es.filter fun e => decide (e.remaining ≠ 1)).map fun e => { e with remaining := e.remaining - 1 } := by
  obtain ⟨-, -, -, hrange⟩ := h
  rw [lowered, List.filter_map]
  refine congrArg (List.map _) (List.filter_congr fun e he => ?_)
  have hlow := (hrange e he).1
  rw [Bool.eq_iff_iff, Function.comp, bne_iff_ne, decide_eq_true_iff]
  dsimp only
  omega

end Minute

/-! ### The condition batch -/

theorem handLines_eq (ls : List Line) : handLines ls = allHanded ls :=
  List.map_congr_left fun L _ => by rw [qualifiedByMode_eq]

/-- Lines that have been handed over stay as they are. -/
theorem allHanded_of_handed {ls : List Line} (h : ∀ L ∈ ls, qualifiedByMode L = L.handed) : allHanded ls = ls := by
  refine (List.map_congr_left fun L hL => ?_).trans (List.map_id' ls)
  rw [h L hL]

theorem batchOf_eq_nil_iff {ls : List Line} : batchOf ls = [] ↔ ∀ L ∈ ls, qualifiedByMode L = L.handed := by
  rw [batchOf, List.map_eq_nil_iff, List.filter_eq_nil_iff]
  simp only [qualifiedByMode_eq, bne_iff_ne, not_not]

theorem takeBatch_nil (p : Point) : takeBatch [] p = .still p := by
  unfold takeBatch
  split <;> rfl

/-- An empty batch, delivered, would change nothing (R73). -/
theorem deliverLines_eq (s : State) : deliverLines s = deliver (batchOf s.lines) s := by
  unfold deliverLines
  split
  · next hempty =>
    have hnone := List.isEmpty_iff.mp hempty
    rw [hnone, deliver, pointEvent_of_still fun p _ => takeBatch_nil p, handLines_eq,
      allHanded_of_handed (batchOf_eq_nil_iff.mp hnone)]
    rfl
  · rfl

theorem chatterDue_iff (s : State) : chatterDue s = true ↔ 8192 ≤ s.time.chatterCount := decide_eq_true_iff

/-- A chatter-window expiry touches nothing that the horns read. -/
theorem wavesOk_chatterExpiry {s : State} (h : WavesOk s) : WavesOk (chatterExpiry s) := by
  unfold chatterExpiry
  split <;> exact h

/-- A second batch on the same tick finds nothing to do: neither an expiry nor a line to hand over. -/
theorem conditionBatch_conditionBatch {s : State} (hready : isReady s = true) :
    conditionBatch (restHorns (conditionBatch s)) = restHorns (conditionBatch s) := by
  have htaken : InputTaken (restHorns (conditionBatch s)) := by
    have hbatch : conditionBatch s = deliverLines (chatterExpiry s) := (conditionBatch_eq s).trans (if_pos hready)
    refine inputTaken_occurs .rest ?_
    rw [hbatch, deliverLines_eq]
    refine ⟨?_, fun _ => batchOf_handLines _⟩
    exact chatterDue_occurs (.batch ((isReady_chatterExpiry s).trans hready)) (chatterDue_chatterExpiry s)
  exact conditionBatch_idle htaken.1 htaken.2

/-! ### The settle end -/

theorem settleDue_iff {s : State} (h : TimeOk s) : settleDue s = true ↔ s.time.device = .settling 32 := by
  obtain ⟨-, -, -, -, -, -, hdevice, -⟩ := h
  unfold settleDue
  cases hstate : s.time.device with
  | ready => simp
  | settling n =>
    have hle : n ≤ 32 := hdevice n (by rw [hstate]; rfl)
    rw [decide_eq_true_iff, Device.settling.injEq]
    exact ⟨fun hge => Nat.le_antisymm hle hge, ge_of_eq⟩

theorem settleCanLead_iff (s : State) :
    settleCanLead s = true ↔ s.time.device = .settling 31 ∧ s.time.prescaler = 31 := by
  rw [settleCanLead, Bool.and_eq_true, tickIsNext_iff, beq_iff_eq]
  rfl

/-! ### CONFIGURE-INPUT -/

theorem levelOf_of_le {b : Byte} (h : b.toNat ≤ 1) : levelOf b = some (if b = 0x01 then .high else .low) := by
  rw [levelOf, twoValued_of_le h, Option.map_some]
  simp only [decide_eq_true_eq]

theorem levelOf_of_lt {b : Byte} (h : 1 < b.toNat) : levelOf b = none := by
  rw [levelOf, twoValued_of_lt h, Option.map_none]

theorem chatterLimitOf_of_mem {b : Byte} (h : b.toNat ≠ 1 ∧ b.toNat ≤ 15) : chatterLimitOf b = some b.toNat := by
  unfold chatterLimitOf
  split
  · next hzero => rw [hzero]; rfl
  · next hzero =>
    have hne : b.toNat ≠ 0 := fun h0 => hzero (BitVec.eq_of_toNat_eq h0)
    exact numberIn_of_mem (by omega) h.2

theorem chatterLimitOf_of_not_mem {b : Byte} (h : ¬ (b.toNat ≠ 1 ∧ b.toNat ≤ 15)) : chatterLimitOf b = none := by
  unfold chatterLimitOf
  split
  · next hzero => rw [hzero] at h; exact absurd (by decide) h
  · exact numberIn_of_lt (by omega)

/-- The operands of CONFIGURE-INPUT that name the settings are in range (R76). -/
abbrev SettingsInRange (enable normalLevel filter limit : Byte) : Prop :=
  enable.toNat ≤ 1 ∧ normalLevel.toNat ≤ 1 ∧ 1 ≤ filter.toNat ∧ filter.toNat ≤ 15 ∧ limit.toNat ≠ 1 ∧ limit.toNat ≤ 15

/-- The settings that operands in range give (R76). -/
abbrev settingsWritten (enable normalLevel filter limit : Byte) : LineSettings :=
  { enable := decide (enable = 0x01), normalLevel := if normalLevel = 0x01 then .high else .low, filter := filter.toNat
    chatterLimit := limit.toNat }

theorem settingsOf_of_inRange {enable normalLevel filter limit : Byte} (h : SettingsInRange enable normalLevel filter limit) :
    settingsOf enable normalLevel filter limit = some (settingsWritten enable normalLevel filter limit) := by
  obtain ⟨henable, hlevel, hlow, hhigh, hlimit⟩ := h
  simp only [settingsOf, twoValued_of_le henable, levelOf_of_le hlevel, numberIn_of_mem hlow hhigh, chatterLimitOf_of_mem hlimit]
  rfl

theorem settingsOf_of_outOfRange {enable normalLevel filter limit : Byte}
    (h : ¬ SettingsInRange enable normalLevel filter limit) : settingsOf enable normalLevel filter limit = none := by
  by_cases henable : enable.toNat ≤ 1
  case neg => simp [settingsOf, twoValued_of_lt (Nat.lt_of_not_le henable)]
  by_cases hlevel : normalLevel.toNat ≤ 1
  case neg => simp [settingsOf, levelOf_of_lt (Nat.lt_of_not_le hlevel)]
  by_cases hfilter : 1 ≤ filter.toNat ∧ filter.toNat ≤ 15
  case neg =>
    have hnone : numberIn 1 15 filter = none := numberIn_of_lt (by omega)
    simp [settingsOf, hnone]
  obtain ⟨hlow, hhigh⟩ := hfilter
  have hlimit : ¬ (limit.toNat ≠ 1 ∧ limit.toNat ≤ 15) := fun hlimit => h ⟨henable, hlevel, hlow, hhigh, hlimit⟩
  simp [settingsOf, chatterLimitOf_of_not_mem hlimit]

theorem configureInput_accepted {line enable normalLevel filter limit : Byte} (hline : line.toNat ≤ 23)
    (h : SettingsInRange enable normalLevel filter limit) (s : State) :
    configureInput line enable normalLevel filter limit s =
      .ok (reconfigureLine line.toNat (settingsWritten enable normalLevel filter limit) (restHorns (conditionBatch s))) := by
  have hnumber : numberIn 0 23 line = some line.toNat := numberIn_of_mem (Nat.zero_le _) hline
  simp only [configureInput, hnumber, settingsOf_of_inRange h]

theorem configureInput_refused {line enable normalLevel filter limit : Byte}
    (h : ¬ (line.toNat ≤ 23 ∧ SettingsInRange enable normalLevel filter limit)) (s : State) :
    configureInput line enable normalLevel filter limit s = .refuse s .badArgument := by
  unfold configureInput
  by_cases hline : line.toNat ≤ 23
  · rw [settingsOf_of_outOfRange fun hin => h ⟨hline, hin⟩]
    cases numberIn 0 23 line <;> rfl
  · have hnone : numberIn 0 23 line = none := numberIn_of_lt (.inr (Nat.lt_of_not_le hline))
    rw [hnone]

/-- CONFIGURE-INPUT at its line, in the words of R77 and R78. -/
theorem configure_eq (L : Line) (c : LineSettings) :
    L.configure c = configuredLine c.enable c.normalLevel c.filter c.chatterLimit L := by
  have henabled : L.enabled = true ↔ Enabled L := by rw [Line.enabled, bne_iff_ne]
  unfold Line.configure configuredLine
  by_cases hsame : (c.enable = true ↔ Enabled L) ∧ c.normalLevel = L.normalLevel
  · obtain ⟨hen, hlevel⟩ := hsame
    have hen' : c.enable = L.enabled := Bool.eq_iff_iff.mpr (hen.trans henabled.symm)
    rw [if_neg (by simp [hen', hlevel]), if_pos ⟨hen, hlevel⟩]
    rfl
  · have hdiffer : c.enable ≠ L.enabled ∨ c.normalLevel ≠ L.normalLevel := by
      by_contra hboth
      obtain ⟨hen, hlevel⟩ := not_or.mp hboth
      exact hsame ⟨(Bool.eq_iff_iff.mp (not_not.mp hen)).trans henabled, not_not.mp hlevel⟩
    rw [if_pos hdiffer, if_neg hsame]
    rfl

/-- A batch of one line, at one point (R79). -/
theorem takeBatch_single (n : Nat) (c : Condition) (p : Point) :
    (takeBatch [(n, c)] p).point = if p.defn.source = .line n then afterCondition c p else p := by
  unfold takeBatch
  cases hsource : p.defn.source with
  | host => rfl
  | line m =>
    by_cases hm : m = n
    · subst hm
      have hstate : Batch.state [(m, c)] m = some c := by simp [Batch.state]
      rw [if_pos rfl]
      simp only [hstate]
      exact takeCondition_point ..
    · have hstate : Batch.state [(n, c)] m = none := by simp [Batch.state, Ne.symm hm]
      rw [if_neg (by simpa using hm)]
      simp only [hstate]
      rfl

theorem handed_configure (L : Line) (c : LineSettings) : (L.configure c).handed = L.handed := by
  unfold Line.configure
  split <;> rfl

/-- The lines with the line of this number written. -/
theorem updateLine_eq {s : State} (h : LinesOk s) {L : Line} (hL : L ∈ s.lines) (f : Line → Line) :
    updateLine L.number f s.lines = s.lines.map fun M => if M.number = L.number then f L else M := by
  have hnodup : (s.lines.map Line.number).Nodup := by rw [h.1]; exact List.nodup_range
  refine List.map_congr_left fun M hM => ?_
  by_cases hnum : M.number = L.number
  · rw [if_pos hnum, if_pos hnum, List.inj_on_of_nodup_map hnodup hM hL hnum]
  · rw [if_neg hnum, if_neg hnum]

/-- What a line reconfiguration does to one point: a change of the line's qualified state is delivered (R79). -/
def takeReconfigured (n : Nat) (before after : Condition) (p : Point) : Moved :=
  if after = before then .still p else takeBatch [(n, after)] p

/-- The reconfiguration of a line, where every line has been handed over, is one event (R77 to R79). -/
theorem reconfigureLine_eq {s : State} (hlines : LinesOk s) (hhanded : ∀ M ∈ s.lines, qualifiedByMode M = M.handed) {L : Line}
    (hL : L ∈ s.lines) {c : LineSettings} (hc : c.InRange) :
    reconfigureLine L.number c s =
      pointEvent (takeReconfigured L.number L.qualified (L.configure c).qualified)
        (s.withLines (allHanded (s.lines.map fun M => if M.number = L.number then L.configure c else M))) := by
  have hupdated := updateLine_eq hlines hL fun L => L.configure c
  have hlines' : LinesOk (s.withLines (updateLine L.number (fun L => L.configure c) s.lines)) :=
    LineTable.updateLine hlines L.number hc
  have hmem : L.configure c ∈ updateLine L.number (fun L => L.configure c) s.lines := by
    rw [hupdated]
    exact List.mem_map.mpr ⟨L, hL, if_pos rfl⟩
  have hbefore : qualifiedAt s L.number = L.qualified := congrArg Line.qualified (lineAt_number hlines hL)
  have hafter : qualifiedAt (s.withLines (updateLine L.number (fun L => L.configure c) s.lines)) L.number =
      (L.configure c).qualified := by
    have hfound := lineAt_number hlines' hmem
    rw [number_configure] at hfound
    exact congrArg Line.qualified hfound
  unfold reconfigureLine
  dsimp only
  rw [hbefore, hafter, hupdated]
  split
  · next hsame =>
    have hall : ∀ M ∈ s.lines.map fun M => if M.number = L.number then L.configure c else M, qualifiedByMode M = M.handed := by
      intro M hM
      obtain ⟨N, hN, rfl⟩ := List.mem_map.mp hM
      split
      · rw [qualifiedByMode_eq, hsame, ← qualifiedByMode_eq, hhanded L hL, handed_configure]
      · exact hhanded N hN
    rw [allHanded_of_handed hall]
    exact (pointEvent_of_still fun p _ => if_pos hsame).symm
  · next hdiffer =>
    have htake : takeReconfigured L.number L.qualified (L.configure c).qualified =
        takeBatch [(L.number, (L.configure c).qualified)] := funext fun p => if_neg hdiffer
    rw [htake, deliver, ← handLines_eq]
    rfl

end Sys2Proof.Machine
end

section
/-! The minute expiry, the condition batch, CONFIGURE-INPUT and the settle end. -/

namespace Sys2Proof.Proofs
open Sys2Proof.Machine

/-- Settles O43: every entry has a minute left, so that those at 1 run out and the others are lowered. -/
theorem minuteExpiry : Obligations.MinuteExpiry := by
  intro s hwaves hpanel out
  have hout : runOut s.shelf = out := runOut_eq hpanel.shelfList
  constructor
  · intro hdue
    have hexpiry : Machine.minuteExpiry s = pointEventWith out .nothing (onlyWhere (fun p => out.contains p.number) (arrive .unshelve))
        { s with
          time := { s.time with minuteCount := 0 }
          shelf := (s.shelf.filter fun e => decide (e.remaining ≠ 1)).map fun e => { e with remaining := e.remaining - 1 } } := by
      have hminute : minuteDue s = true := decide_eq_true hdue
      rw [Machine.minuteExpiry, if_pos hminute]
      dsimp only
      rw [hout, lowered_eq hpanel.shelfList]
      rfl
    have hcovers (p : Point) : out.contains p.number = true ↔ p.number ∈ out := List.contains_iff_mem
    have hdefined : ∀ n ∈ out, n ∈ definedNumbers s := fun n hn => shelf_defined hpanel (mem_of_mem_runOut (hout.symm ▸ hn))
    have horder : leadWith out (definedNumbers s) = out ++ (definedNumbers s).filter fun n => decide (n ∉ out) := by
      have hlead : (out.filter fun n => (definedNumbers s).contains n) = out :=
        List.filter_eq_self.mpr fun n hn => List.contains_iff_mem.mpr (hdefined n hn)
      rw [leadWith, hlead]
      refine congrArg (out ++ ·) (List.filter_congr fun n _ => ?_)
      rw [Bool.eq_iff_iff, Bool.not_eq_true', ← Bool.not_eq_true, List.contains_iff_mem, decide_eq_true_iff]
    refine ⟨_, congrArg (fun t => Host.Outcome.next (restHorns t)) hexpiry, ?_⟩
    exact panelEvent_pointEventWith hpanel.ascend hpanel.groupsOk (fun p _ => reports_onlyWhere _ (reports_arrive .unshelve p))
      (onlyWhere_point hcovers arrive_unshelve) (fun p _ => .inl (group_onlyWhere _ (arrive_defn .unshelve) p))
      (fun _ _ _ => by simp [Asked.nothing]) horder
  · intro hnot
    rw [exec_rowEvent (f := Machine.minuteExpiry) rfl, minuteExpiry_idle (decide_eq_false (Nat.not_le_of_lt hnot)),
      restHorns_of_wavesOk hwaves]

/-- Settles O47: the batch is delivered after the expiry of the same tick, and an empty one changes nothing. -/
theorem conditionBatch : Obligations.ConditionBatch := by
  intro s hwaves hpanel hlines
  have hwindow : exec .chatterWindowExpiry s = .next (chatterExpiry s) := by
    rw [exec_rowEvent (f := chatterExpiry) rfl, restHorns_of_wavesOk (wavesOk_chatterExpiry hwaves)]
  refine ⟨fun hsettling => ?settling, fun hready hquiet => ?batch, fun hready => ⟨chatterExpiry s, hwindow, ?order⟩,
    fun hdue => ?due, fun hnot => ?idle⟩
  case settling =>
    rw [exec_rowEvent (f := Machine.conditionBatch) rfl, conditionBatch_eq, if_neg (by simp [hsettling]),
      restHorns_of_wavesOk hwaves]
  case batch =>
    have hbatch : Machine.conditionBatch s = pointEvent (takeBatch (batchOf s.lines)) { s with lines := allHanded s.lines } := by
      rw [conditionBatch_eq, if_pos hready, chatterExpiry_idle hquiet, deliverLines_eq, ← handLines_eq]
      rfl
    refine ⟨_, congrArg (fun t => Host.Outcome.next (restHorns t)) hbatch, ?_⟩
    exact panelEvent_pointEvent hpanel.ascend hpanel.groupsOk (fun p _ => reports_takeBatch _ p) (takeBatch_point s.lines)
      fun p _ => .inl (keeps_takeBatch _ p).group
  case order =>
    have hready' : isReady (chatterExpiry s) = true := (isReady_chatterExpiry s).trans hready
    rw [exec_rowEvent (f := Machine.conditionBatch) rfl, exec_rowEvent (f := Machine.conditionBatch) rfl, conditionBatch_eq,
      conditionBatch_eq, if_pos hready, if_pos hready', chatterExpiry_idle (chatterDue_chatterExpiry s)]
  case due =>
    rw [hwindow, chatterExpiry, if_pos ((chatterDue_iff s).mpr hdue)]
    rfl
  case idle =>
    rw [hwindow, chatterExpiry_idle (eq_false_of_ne_true (mt (chatterDue_iff s).mp (Nat.not_le_of_lt hnot)))]

/-- Settles O46: the settings are refused or written; the input work that is due comes first, and is not due again. -/
theorem configureInput : Obligations.ConfigureInput := by
  intro s line enable normalLevel filter limit hrec hwaves hpanel hlines bytes i accepted
  refine ⟨fun hbad => exec_of_effect_ready rfl hrec (configureInput_refused hbad s) hwaves, fun hok => ?first,
    fun L hL hok hnone hnum => ?event⟩
  case first =>
    obtain ⟨hline, hsettings⟩ := hok
    obtain ⟨⟨hrstn, hport⟩, hready⟩ := hrec
    refine ⟨restHorns (Machine.conditionBatch s), rfl, ?_⟩
    have hinner : Inner fun s => restHorns (Machine.conditionBatch s) := inner_restHorns.comp inner_conditionBatch
    have hopen' : PortOpen (restHorns (Machine.conditionBatch s)) := ⟨(hinner.rstn s).trans hrstn, (hinner.port s).trans hport⟩
    have hready' : isReady (restHorns (Machine.conditionBatch s)) = true := by
      have hbatch : Machine.conditionBatch s = deliver (batchOf (chatterExpiry s).lines) (chatterExpiry s) := by
        rw [conditionBatch_eq, if_pos hready, deliverLines_eq]
      rw [hbatch]
      exact (isReady_chatterExpiry s).trans hready
    have htaking {u : State} (hopen : PortOpen u) (hu : isReady u = true) : exec i u = .next (taken bytes (fun u =>
        .ok (reconfigureLine line.toNat (settingsWritten enable normalLevel filter limit) (restHorns (Machine.conditionBatch u)))) u) := by
      refine (atTaking_open hopen _).trans (congrArg Host.Outcome.next ?_)
      simp only [takeConfigureInput, taken, unlessBusy_ready hu, configureInput_accepted hline hsettings]
      rfl
    rw [htaking ⟨hrstn, hport⟩ hready, htaking hopen' hready']
    simp only [taken, conditionBatch_conditionBatch hready, restHorns_restHorns]
  case event =>
    intro L'
    obtain ⟨hline, hsettings⟩ := hok
    obtain ⟨hquiet, hhanded⟩ := hnone
    have hinRange : (settingsWritten enable normalLevel filter limit).InRange := by
      obtain ⟨-, -, hlow, hhigh, hne, hle⟩ := hsettings
      refine ⟨hlow, hhigh, ?_⟩
      change limit.toNat = 0 ∨ (2 ≤ limit.toNat ∧ limit.toNat ≤ 15)
      omega
    have hidle : restHorns (Machine.conditionBatch s) = s := by
      rw [conditionBatch_idle hquiet fun _ => batchOf_eq_nil_iff.mpr hhanded, restHorns_of_wavesOk hwaves]
    have hL' : L.configure (settingsWritten enable normalLevel filter limit) = L' := configure_eq L _
    have heffect := configureInput_accepted hline hsettings s
    rw [hidle, ← hnum, reconfigureLine_eq hlines hhanded hL hinRange, hL'] at heffect
    refine exec_pointEvent (u := { s with lines := allHanded (s.lines.map fun M => if M.number = L.number then L' else M) })
      rfl hrec heffect hpanel.ascend hpanel.groupsOk (fun p _ => ?reports) (fun p => ?point) fun p _ => ?group
    case reports =>
      unfold takeReconfigured
      split
      · exact reports_still p
      · exact reports_takeBatch _ p
    case point =>
      unfold takeReconfigured
      rw [← qualifiedByMode_eq, ← qualifiedByMode_eq]
      by_cases hsame : qualifiedByMode L' = qualifiedByMode L
      · rw [if_pos hsame, if_neg fun hboth => hboth.2 hsame]
        rfl
      · rw [if_neg hsame, takeBatch_single]
        exact if_congr (and_iff_left hsame).symm rfl rfl
    case group =>
      unfold takeReconfigured
      split
      · exact .inl rfl
      · exact .inl (keeps_takeBatch _ p).group

/-- Settles O59: on its tick or ahead of it the settle end is the one event, and at no other time does it occur. -/
theorem settleEnd : Obligations.SettleEnd := by
  intro s hwaves hpanel hlines htime ahead
  have hdue := settleDue_iff htime
  have hlead : settleCanLead s = true ↔ ahead := settleCanLead_iff s
  have hexec : exec .settleEnd s = .next (restHorns (if settleDue s || settleCanLead s then settleEndEvent s else s)) := rfl
  constructor
  · intro hoccurs
    have hmark : (s.time.device == .settling 31) = decide ahead := by
      rw [Bool.eq_iff_iff, beq_iff_eq, decide_eq_true_iff]
      refine ⟨fun h31 => ?_, And.left⟩
      rcases hoccurs with h32 | hahead
      · rw [h32] at h31
        cases h31
      · exact hahead
    have hevent : settleEndEvent s = pointEvent (takeLineState s)
        { s with
          lines := allHanded s.lines
          time := { s.time with leaseCount := 0, minuteCount := 0, device := .ready, settleAhead := decide ahead } } := by
      rw [← hmark, ← handLines_eq]
      rfl
    rw [hexec, if_pos (by rw [Bool.or_eq_true, hdue, hlead]; exact hoccurs), hevent]
    refine ⟨_, rfl, ?_⟩
    exact panelEvent_pointEvent (g := afterLineState s) hpanel.ascend hpanel.groupsOk (fun p _ => reports_takeLineState s p)
      (takeLineState_point s) fun p _ => .inl (keeps_takeLineState s p).group
  · intro hnot hnotAhead
    rw [hexec, if_neg (by rw [Bool.or_eq_true, hdue, hlead]; exact not_or.mpr ⟨hnot, hnotAhead⟩), restHorns_of_wavesOk hwaves]

end Sys2Proof.Proofs
end

section
/-! SUPPORT. The output lines, and the commands that read or write one unit (R56, R62, R86, R112, R127, R133, R148). -/

namespace Sys2Proof.Machine

/-! ### The output lines -/

/-- COM and SEG show the image of an ACTIVE drive (R132). -/
theorem panelLit_iff {s : State} {image : List Bool} (h : s.display.image = some image) (cell : Nat) :
    panelLit s cell = true ↔ image[cell]? = some true := by
  unfold panelLit
  rw [h]
  dsimp only
  rw [List.getD_eq_getElem?_getD]
  cases image[cell]? <;> simp

theorem panelLit_dark {s : State} (h : s.display.image = none) (cell : Nat) : panelLit s cell = false := by
  unfold panelLit
  rw [h]

/-- SO is high impedance while CS is high or RSTN is low (R158, R178). -/
theorem so_none {s : State} (h : s.cs = true ∨ s.rstn = false) : so s = none := by
  rcases h with h | h <;> simp [so, h]

/-- In a transaction SO carries the bit of its byte that the next rising edge shifts out (R159, log 15). -/
theorem so_transaction {s : State} (hport : PortOk s) {x : Transaction} (hx : x ∈ s.port.transaction) :
    so s = some ((soByte x).getLsbD (7 - x.edges)) := by
  have hactive := port_of_mem_transaction hx
  have hpins : ¬ (s.cs = true ∨ s.rstn = false) := by
    rw [← hport.1, hactive]
    exact nofun
  have hselected : (s.rstn && !s.cs) = true := by simpa [and_comm] using hpins
  rw [so, if_pos hselected, hactive]

/-! ### SILENCE -/

theorem silenceable_iff (st : PointState) : st.silenceable = true ↔ st = .alert ∨ st = .cleared ∨ st = .returned := by
  cases st <;> simp [PointState.silenceable]

theorem silences_iff {scope : Byte} {sc : Scope} (h : scopeOf scope = some sc) (p : Point) :
    silences sc p = true ↔
      Covers scope p ∧ (p.state = .alert ∨ p.state = .cleared ∨ p.state = .returned) ∧ p.run.silenced = false := by
  rw [silences, Bool.and_eq_true, Bool.and_eq_true, covers_iff h, silenceable_iff, Bool.not_eq_true', and_assoc]

/-- An event that leaves the output unit ends with silent horns at rest and the others as they were (R145). -/
theorem wavesFollow_restHorns {s u : State} (h : u.output = s.output) : WavesFollow s (restHorns u) := by
  refine ⟨?_, ?_, by rw [restHorns_retrigger, h]⟩
  · rw [sounding_restHorns, restHorns_horn1, h]
  · rw [sounding_restHorns, restHorns_horn2, h]

/-! ### Groups -/

theorem groupOf_of_lt {b : Byte} (h : b.toNat = 0 ∨ 8 < b.toNat) : groupOf b = none := numberIn_of_lt (by omega)

/-- A group's number is 1 to 8 (R47). -/
theorem number_of_group {s : State} (h : GroupsOk s) {G : Group} (hG : G ∈ s.groups) : 1 ≤ G.number ∧ G.number ≤ 8 := by
  have hmem : G.number ∈ s.groups.map Group.number := List.mem_map_of_mem hG
  rw [h.1] at hmem
  simp only [List.mem_cons, List.not_mem_nil, or_false] at hmem
  omega

theorem groupOf_number {s : State} (h : GroupsOk s) {G : Group} (hG : G ∈ s.groups) {b : Byte} (hnum : G.number = b.toNat) :
    groupOf b = some G.number := by
  obtain ⟨hlow, hhigh⟩ := number_of_group h hG
  rw [hnum] at hlow hhigh ⊢
  exact numberIn_of_mem hlow hhigh

theorem groupAt_number {s : State} (h : GroupsOk s) {G : Group} (hG : G ∈ s.groups) : groupAt s G.number = G := by
  have hnodup : (s.groups.map Group.number).Nodup := by rw [h.1]; decide
  rw [groupAt, find?_of_nodup hnodup hG, Option.getD_some]

/-- A captured point's number is below 64 (R47). -/
theorem captured_lt {s : State} (h : PanelOk s) {G : Group} (hG : G ∈ s.groups) {n : Nat} (hn : n ∈ G.state.capturedPoint) :
    n < 64 := by
  obtain ⟨p, hp, rfl, -⟩ := (h.groupsOk.2 G hG).2 n hn
  exact number_lt_of_tableOk h.tableOk hp

/-! ### CONFIGURE-KEYS, CONFIGURE-DISPLAY and SET-OVERRIDE -/

theorem configureKeys_refused {ack silence clear test : Byte}
    (h : 1 < ack.toNat ∨ 1 < silence.toNat ∨ 1 < clear.toNat ∨ 1 < test.toNat) (s : State) :
    configureKeys ack silence clear test s = .refuse s .badArgument := by
  unfold configureKeys
  rcases h with h | h | h | h <;> rw [twoValued_of_lt h]
  · cases twoValued ack <;> rfl
  · cases twoValued ack <;> cases twoValued silence <;> rfl
  · cases twoValued ack <;> cases twoValued silence <;> cases twoValued clear <;> rfl

theorem configureDisplay_refused {power commons quiet : Byte}
    (h : ¬ (power.toNat ≤ 1 ∧ 1 ≤ commons.toNat ∧ commons.toNat ≤ 4 ∧ quiet.toNat ≤ 1)) (s : State) :
    configureDisplay power commons quiet s = .refuse s .badArgument := by
  unfold configureDisplay
  by_cases hpower : power.toNat ≤ 1
  case neg => rw [twoValued_of_lt (Nat.lt_of_not_le hpower)]
  by_cases hquiet : quiet.toNat ≤ 1
  case neg =>
    rw [twoValued_of_lt (Nat.lt_of_not_le hquiet)]
    cases twoValued power <;> cases numberIn 1 4 commons <;> rfl
  have hcommons : numberIn 1 4 commons = none := numberIn_of_lt (by omega)
  rw [hcommons]
  cases twoValued power <;> rfl

theorem configureDisplay_accepted {power commons quiet : Byte} (hpower : power.toNat ≤ 1) (hlow : 1 ≤ commons.toNat)
    (hhigh : commons.toNat ≤ 4) (hquiet : quiet.toNat ≤ 1) (s : State) :
    configureDisplay power commons quiet s =
      .ok (s.withDisplay (s.display.configure (decide (power = 0x01)) commons.toNat (decide (quiet = 0x01)))) := by
  simp only [configureDisplay, twoValued_of_le hpower, numberIn_of_mem hlow hhigh, twoValued_of_le hquiet]

/-- The power operand at the drive (R128). -/
theorem power_eq (d : Drive) (on : Bool) :
    d.power on = if on = true then (if d = .off then .warming 0 else d) else .off := by
  cases d <;> cases on <;> rfl

theorem configure_display_eq (d : Display) (power quiet : Byte) (commons : Nat) :
    d.configure (decide (power = 0x01)) commons (decide (quiet = 0x01)) =
      { d with
        quiet := decide (quiet = 0x01)
        commonsPending := commons
        drive := if power = 0x01 then (if d.drive = .off then .warming 0 else d.drive) else .off
        image := if power = 0x01 then d.image else none } := by
  rw [Display.configure, power_eq]
  simp only [decide_eq_true_eq]

/-! ### CONFIGURE-HORN -/

theorem hornOf_of_mem {b : Byte} (hlow : 1 ≤ b.toNat) (hhigh : b.toNat ≤ 2) :
    hornOf b = some (if b = 0x01 then .horn1 else .horn2) := by
  have hcases : b.toNat = 1 ∨ b.toNat = 2 := by omega
  rcases hcases with h1 | h2
  · obtain rfl : b = 0x01 := BitVec.eq_of_toNat_eq h1
    rfl
  · obtain rfl : b = 0x02 := BitVec.eq_of_toNat_eq h2
    rfl

theorem hornOf_of_not_mem {b : Byte} (h : ¬ (1 ≤ b.toNat ∧ b.toNat ≤ 2)) : hornOf b = none := by
  have h1 : b ≠ 0x01 := by rintro rfl; exact h (by decide)
  have h2 : b ≠ 0x02 := by rintro rfl; exact h (by decide)
  rw [hornOf, if_neg h1, if_neg h2]

theorem configureHorn_refused {horn enable tone retrigger : Byte}
    (h : ¬ (1 ≤ horn.toNat ∧ horn.toNat ≤ 2 ∧ enable.toNat ≤ 1 ∧ retrigger.toNat ≤ 1 ∧ 1 ≤ tone.toNat ∧ tone.toNat ≤ 63))
    (s : State) : configureHorn horn enable tone retrigger s = .refuse s .badArgument := by
  unfold configureHorn
  by_cases hhorn : 1 ≤ horn.toNat ∧ horn.toNat ≤ 2
  case neg => rw [hornOf_of_not_mem hhorn]
  by_cases henable : enable.toNat ≤ 1
  case neg =>
    rw [twoValued_of_lt (Nat.lt_of_not_le henable)]
    cases hornOf horn <;> rfl
  by_cases hretrigger : retrigger.toNat ≤ 1
  case neg =>
    rw [twoValued_of_lt (Nat.lt_of_not_le hretrigger)]
    cases hornOf horn <;> cases twoValued enable <;> cases numberIn 1 63 tone <;> rfl
  have htone : numberIn 1 63 tone = none := numberIn_of_lt (by omega)
  rw [htone]
  cases hornOf horn <;> cases twoValued enable <;> rfl

/-! ### The horns at the end of an event -/

/-- The wave of a horn at the end of an event (R145). -/
theorem restHorns_wave (s : State) (h : HornId) :
    (restHorns s).output.horn h = { s.output.horn h with wave := waveIn (restHorns s) h (s.output.horn h).wave } := by
  unfold waveIn
  rw [sounding_restHorns]
  cases h with
  | horn1 =>
    rw [Output.horn, restHorns_horn1]
    cases sounding s .horn1 <;> rfl
  | horn2 =>
    rw [Output.horn, restHorns_horn2]
    cases sounding s .horn2 <;> rfl

/-- Without a requesting point no horn sounds (R145). -/
theorem sounding_of_none {s : State} {h : HornId} (hnone : ∀ p ∈ s.points, requesting h p = false) : sounding s h = false := by
  have hrequest : hornRequest s h = false := List.any_eq_false.mpr fun p hp => by simp [hnone p hp]
  simp [sounding, hrequest]

/-- A half-wave end touches nothing that makes a horn sound, so the other horn stays as it is. -/
theorem wavesOk_toggle {s : State} {h : HornId} (hwaves : WavesOk s) (hsounds : sounding s h = true) :
    WavesOk (s.withOutput (s.output.updateHorn h Horn.toggle)) := by
  obtain ⟨h1, h2⟩ := hwaves
  rw [WavesOk, sounding_updateHorn_toggle, sounding_updateHorn_toggle]
  cases h with
  | horn1 => exact ⟨fun hs => absurd hsounds (by simp [hs]), h2⟩
  | horn2 => exact ⟨h1, fun hs => absurd hsounds (by simp [hs])⟩

theorem horn_updateHorn_self (o : Output) (h : HornId) (f : Horn → Horn) : (o.updateHorn h f).horn h = f (o.horn h) := by
  cases h <;> rfl

theorem horn_updateHorn_other (o : Output) {h k : HornId} (f : Horn → Horn) (hne : k ≠ h) :
    (o.updateHorn h f).horn k = o.horn k := by
  cases h with
  | horn1 =>
    cases k with
    | horn1 => exact absurd rfl hne
    | horn2 => rfl
  | horn2 =>
    cases k with
    | horn1 => rfl
    | horn2 => exact absurd rfl hne

/-! ### One period of the waves -/

/-- A horn that sounds counts the period; one that does not is at rest (R145). -/
theorem horn_advanceWaves {s : State} (h : WavesOk s) (k : HornId) :
    (advanceWaves s).output.horn k =
      { s.output.horn k with
        wave := if sounding s k then { high := (s.output.horn k).wave.high, elapsed := (s.output.horn k).wave.elapsed + 1 }
          else .rest } := by
  obtain ⟨hrest1, hrest2⟩ := h
  cases k with
  | horn1 =>
    change (if sounding s .horn1 then s.output.horn1.advance else s.output.horn1) = _
    cases hs : sounding s .horn1 with
    | true => rfl
    | false => exact congrArg (fun w => { s.output.horn1 with wave := w }) (hrest1 hs)
  | horn2 =>
    change (if sounding s .horn2 then s.output.horn2.advance else s.output.horn2) = _
    cases hs : sounding s .horn2 with
    | true => rfl
    | false => exact congrArg (fun w => { s.output.horn2 with wave := w }) (hrest2 hs)

end Sys2Proof.Machine
end

section
/-! The output lines, SILENCE and the key actions, READ-SHELF and READ-GROUP. -/

namespace Sys2Proof.Proofs
open Sys2Proof.Machine

/-- Settles O26, line by line. -/
theorem outputLines : Obligations.OutputLines := by
  intro s hpanel htime hport hdisplay
  obtain ⟨-, -, -, -, himage, hlength, -⟩ := hdisplay
  refine ⟨irq_iff s, cmn_iff s, fun h _ => ?horns, fun hactive => ?active, fun hdark cell => ?dark, so_none,
    fun x hx => ⟨fun hreply => ?code, fun reply hreply => ?reply⟩⟩
  case horns =>
    obtain ⟨-, hcycle, -⟩ := htime
    rw [hornOutput, Bool.and_eq_true, sounding_iff hcycle]
  case active =>
    obtain ⟨image, hsome⟩ := Option.isSome_iff_exists.mp (himage.mpr hactive)
    exact ⟨image, hsome, hlength image hsome, panelLit_iff hsome⟩
  case dark => exact panelLit_dark (Option.not_isSome_iff_eq_none.mp (mt himage.mp hdark)) cell
  case code =>
    have hzero : (0 : Byte).getLsbD (7 - x.edges) = false := BitVec.getLsbD_zero
    rw [so_transaction hport hx, soByte, hreply]
    exact congrArg some hzero
  case reply =>
    rw [so_transaction hport hx, soByte, hreply]

/-- Settles O37, down the checks of R35: the flags are set, and only the horns can change with them. -/
theorem silence : Obligations.Silence := by
  intro s scope hrec hwaves hpanel sets
  refine ⟨fun h => exec_of_effect_ready rfl hrec (withScope_unlisted h ..) hwaves,
    fun h => exec_of_effect_ready rfl hrec (withScope_vacant h ..) hwaves, fun h => ?_⟩
  obtain ⟨sc, hsc, heffect⟩ := withScope_accepted h silenceCount silenceEvent
  have hsets : silences sc = sets := by
    funext p
    rw [Bool.eq_iff_iff, silences_iff hsc, decide_eq_true_iff]
  have hpoints : s.points.map (silencePoint sc) =
      s.points.map fun p => if sets p then { p with run := { p.run with silenced := true } } else p := by
    simp only [← hsets]
    rfl
  obtain ⟨hopen, hready⟩ := hrec
  rw [silenceCount, hsets, silenceEvent, hpoints] at heffect
  refine ⟨restHorns { answered s [0x21, scope] .ok [BitVec.ofNat 8 (s.points.countP sets)] with
    points := s.points.map fun p => if sets p then { p with run := { p.run with silenced := true } } else p }, ?_, rfl, rfl,
    wavesFollow_restHorns rfl⟩
  refine (atTaking_open hopen _).trans (congrArg Host.Outcome.next ?_)
  simp only [takeSilence, taken, unlessBusy_ready hready, heffect]
  rfl

/-- Settles O39: the event is the command's, apart from the answer. -/
theorem keyAction : Obligations.KeyAction := by
  intro s k hwaves hpanel
  have hrecord : s.keys.record k = actingKey k s.keys := by cases k <;> rfl
  have htaken : s.keys.takeDue k = keyTaken k s.keys := by cases k <;> rfl
  have hexec : exec (.keyAction k) s = .next (restHorns (Machine.keyAction k s)) := rfl
  refine ⟨fun hdue henable hready => ?acts, fun hdue hignored => ?ignored, fun hnone => ?none⟩
  case acts =>
    have hkey : Machine.keyAction k s = keyEvent k (s.withKeys (s.keys.takeDue k)) := by
      rw [Machine.keyAction, hrecord, if_pos hdue]
      exact if_pos (by rw [hready, henable]; rfl)
    let u : State := { s with rstn := true, port := .active .fresh }
    have hready' : isReady u = true := hready
    have hopen : PortOpen u := ⟨rfl, rfl⟩
    rw [hexec, hkey, htaken]
    cases k with
    | ack =>
      refine ⟨takeAcknowledge 0xFF u, atTaking_open hopen _, ?_⟩
      simp only [takeAcknowledge, taken, unlessBusy_ready hready']
      rfl
    | silence =>
      refine ⟨takeSilence 0xFF u, atTaking_open hopen _, ?_⟩
      simp only [takeSilence, taken, unlessBusy_ready hready']
      rfl
    | clear =>
      refine ⟨takeClear 0xFF u, atTaking_open hopen _, ?_⟩
      simp only [takeClear, taken, unlessBusy_ready hready']
      rfl
  case ignored =>
    have hkey : Machine.keyAction k s = s.withKeys (keyTaken k s.keys) := by
      rw [Machine.keyAction, hrecord, if_pos hdue, htaken]
      refine if_neg ?_
      rcases hignored with h | h <;> simp [h]
    have hwaves' : WavesOk (s.withKeys (keyTaken k s.keys)) := hwaves
    rw [hexec, hkey, restHorns_of_wavesOk hwaves']
    rfl
  case none => rw [hexec, keyAction_idle (hrecord ▸ hnone), restHorns_of_wavesOk hwaves]

/-- Settles O42: the entries stand after the length, two bytes each. -/
theorem readShelf : Obligations.ReadShelf := by
  intro s hrec hwaves hpanel
  have htwo : ∀ e : ShelfEntry, [byteOf e.point, byteOf e.remaining].length = 2 := fun _ => rfl
  obtain ⟨hlength, -, -, hrange⟩ := hpanel.shelfList
  refine ⟨shelfBytes s, exec_of_effect_ready (effect := fun s => .read s (shelfBytes s)) rfl hrec rfl hwaves, ?_, ?_,
    fun k _ e he => ⟨?_, ?_⟩⟩
  · rw [shelfBytes, List.length_cons, length_flatMap_two htwo, Nat.add_comm]
  · exact toNat_byteOf (hlength.trans_lt (by decide))
  · have hmem := List.mem_of_getElem? he
    obtain ⟨p, hp, hnum⟩ := List.mem_map.mp (shelf_defined hpanel (List.mem_map_of_mem hmem))
    have hlt : e.point < 64 := hnum ▸ number_lt_of_tableOk hpanel.tableOk hp
    rw [shelfBytes, ← List.singleton_append,
      resultByte_append_right (k := 2 * k + 1) (by rw [List.length_singleton]; omega) (by omega),
      resultByte_flatMap_two htwo he (by decide) (by decide)]
    exact toNat_byteOf (by omega)
  · have hle := (hrange e (List.mem_of_getElem? he)).2
    rw [shelfBytes, ← List.singleton_append,
      resultByte_append_right (k := 2 * k + 2) (by rw [List.length_singleton]; omega) (by omega),
      resultByte_flatMap_two htwo he (by decide) (by decide)]
    exact toNat_byteOf (hle.trans_lt (by decide))

/-- Settles O45, bit by bit. -/
theorem readGroup : Obligations.ReadGroup := by
  intro s group hrec hwaves hpanel
  constructor
  · intro hbad
    have heffect : Machine.readGroup group s = .refuse s .badArgument := by rw [Machine.readGroup, groupOf_of_lt hbad]
    exact exec_of_effect_ready rfl hrec heffect hwaves
  · intro G hG hnum
    have heffect : Machine.readGroup group s = .read s (groupBytes G) := by
      rw [Machine.readGroup, groupOf_number hpanel.groupsOk hG hnum]
      dsimp only
      rw [groupAt_number hpanel.groupsOk hG]
    refine ⟨groupBytes G, exec_of_effect_ready rfl hrec heffect hwaves, rfl, bitSays_of_bits rfl (by decide) Iff.rfl,
      bitSays_of_bits rfl (by decide) beq_iff_eq, field_of_bits rfl (by decide) rfl, ?unused, fun h => ?disabled, fun h => ?armed,
      fun n hn => ?captured, fun h => ?none⟩
    case unused => exact field_of_bits rfl (by decide) (by cases G.state <;> rfl)
    case disabled => exact field_of_bits rfl (by decide) (by rw [h]; rfl)
    case armed => exact field_of_bits rfl (by decide) (by rw [h]; rfl)
    case captured =>
      have hlt := captured_lt hpanel hG hn
      cases hstate : G.state with
      | captured m =>
        rw [hstate] at hn
        cases hn
        refine ⟨field_of_bits rfl (by decide) (by rw [hstate]; rfl), ?_⟩
        have hbyte : resultByte (groupBytes G) 2 = byteOf n := congrArg GroupState.pointByte hstate
        rw [hbyte]
        exact toNat_byteOf (by omega)
      | armed | disabled => rw [hstate] at hn; cases hn
    case none =>
      change G.state.pointByte = 0xFF
      cases hstate : G.state with
      | captured m => rw [hstate] at h; cases h
      | armed | disabled => rfl

end Sys2Proof.Proofs
end

section
/-! CONFIGURE-KEYS, CONFIGURE-DISPLAY and SET-OVERRIDE, CONFIGURE-HORN, the output unit's timed events, the REFCLK period, and
RESTART. -/

namespace Sys2Proof.Proofs
open Sys2Proof.Machine

/-- Settles O49. -/
theorem configureKeys : Obligations.ConfigureKeys := by
  intro s ack silence clear test hrec hwaves bytes i
  refine ⟨fun hbad => exec_of_effect_ready rfl hrec (configureKeys_refused hbad s) hwaves, fun ha hs hc ht => ?_⟩
  have heffect : Machine.configureKeys ack silence clear test s = .ok (s.withKeys (s.keys.withEnables (decide (ack = 0x01))
      (decide (silence = 0x01)) (decide (clear = 0x01)) (decide (test = 0x01)))) := by
    simp only [Machine.configureKeys, twoValued_of_le ha, twoValued_of_le hs, twoValued_of_le hc, twoValued_of_le ht]
  refine ⟨_, exec_of_effect_ready rfl hrec heffect hwaves, rfl, ?_⟩
  obtain ⟨-, hready⟩ := hrec
  rw [keyTest_iff]
  refine and_congr_right fun _ => ?_
  exact (and_iff_left hready).trans decide_eq_true_iff

/-- Settles O50. -/
theorem displayCommands : Obligations.DisplayCommands := by
  intro s power commons quiet test hrec hwaves i accepted
  refine ⟨fun hbad => exec_of_effect_ready rfl hrec (configureDisplay_refused hbad s) hwaves, fun hok => ?display,
    fun hbad => ?refused, fun hok => ?override⟩
  case display =>
    obtain ⟨hpower, hlow, hhigh, hquiet⟩ := hok
    have heffect := configureDisplay_accepted hpower hlow hhigh hquiet s
    rw [configure_display_eq] at heffect
    exact exec_of_effect_ready rfl hrec heffect hwaves
  case refused =>
    have heffect : setOverride test s = .refuse s .badArgument := by rw [setOverride, twoValued_of_lt hbad]
    exact exec_of_effect_ready rfl hrec heffect hwaves
  case override =>
    have heffect : setOverride test s = .ok (s.withDisplay { s.display with commandTest := decide (test = 0x01) }) := by
      rw [setOverride, twoValued_of_le hok]
    exact exec_of_effect_ready rfl hrec heffect hwaves

/-- Settles O53: the named horn is written, and then each wave follows whether its horn sounds. -/
theorem configureHorn : Obligations.ConfigureHorn := by
  intro s horn enable tone retrigger hrec hwaves i accepted
  refine ⟨fun hbad => exec_of_effect_ready rfl hrec (configureHorn_refused hbad s) hwaves, fun hok => ?_⟩
  obtain ⟨hhornLow, hhornHigh, henable, hretrigger, hlow, hhigh⟩ := hok
  let h : HornId := if horn = 0x01 then .horn1 else .horn2
  let u : State := s.withOutput
    { s.output.updateHorn h (fun x => x.configure (decide (enable = 0x01)) tone.toNat) with retrigger := decide (retrigger = 0x01) }
  have heffect : Machine.configureHorn horn enable tone retrigger s = .ok u := by
    simp only [Machine.configureHorn, hornOf_of_mem hhornLow hhornHigh, twoValued_of_le henable, numberIn_of_mem hlow hhigh,
      twoValued_of_le hretrigger]
    rfl
  obtain ⟨hopen, hready⟩ := hrec
  let v := answered u [0x48, horn, enable, tone, retrigger] .ok []
  have hexec : exec i s = .next (restHorns v) := by
    refine (atTaking_open hopen _).trans (congrArg Host.Outcome.next ?_)
    simp only [takeConfigureHorn, taken, unlessBusy_ready hready, heffect]
    rfl
  have hother : horn ≠ 0x01 → horn = 0x02 := by
    intro hne
    have hval : horn.toNat ≠ 1 := fun h1 => hne (BitVec.eq_of_toNat_eq h1)
    exact BitVec.eq_of_toNat_eq (by change horn.toNat = 2; omega)
  refine ⟨restHorns v, hexec, rfl, rfl, ?_, ?_, ?_⟩
  · change (s.output.updateHorn h _).gap = s.output.gap
    cases h <;> rfl
  · refine (restHorns_wave v .horn1).trans ?_
    change ({ (s.output.updateHorn h _).horn .horn1 with
      wave := waveIn (restHorns v) .horn1 ((s.output.updateHorn h _).horn .horn1).wave } : Horn) = _
    by_cases hfirst : horn = 0x01
    · have hh : h = .horn1 := if_pos hfirst
      rw [hh, horn_updateHorn_self, if_pos hfirst, if_pos hfirst]
      rfl
    · have hh : h = .horn2 := if_neg hfirst
      rw [hh, horn_updateHorn_other _ _ (by decide), if_neg hfirst, if_neg hfirst]
      rfl
  · refine (restHorns_wave v .horn2).trans ?_
    change ({ (s.output.updateHorn h _).horn .horn2 with
      wave := waveIn (restHorns v) .horn2 ((s.output.updateHorn h _).horn .horn2).wave } : Horn) = _
    by_cases hfirst : horn = 0x01
    · have hh : h = .horn1 := if_pos hfirst
      have hnot : horn ≠ 0x02 := by rw [hfirst]; decide
      rw [hh, horn_updateHorn_other _ _ (by decide), if_neg hnot, if_neg hnot]
      rfl
    · have hh : h = .horn2 := if_neg hfirst
      rw [hh, horn_updateHorn_self, if_pos (hother hfirst), if_pos (hother hfirst)]
      rfl

/-- Settles O55, event by event. -/
theorem wrapGapEndHalfWaveEnd : Obligations.WrapGapEndHalfWaveEnd := by
  intro s h hwaves
  have hgap : gapDue s = true ↔ ∃ n ∈ s.output.gap, 512 ≤ n := by
    rw [gapDue, Option.any_eq_true]
    exact exists_congr fun n => and_congr_right fun _ => decide_eq_true_iff
  have hhalf : halfWaveDue s h = true ↔
      sounding s h = true ∧ (s.output.horn h).tone + 1 ≤ (s.output.horn h).wave.elapsed := by
    rw [halfWaveDue, Bool.and_eq_true, decide_eq_true_iff]
  refine ⟨fun hdue => ?wrap, fun hnot => ?wrapIdle, fun hdue => ?gap, fun hnot => ?gapIdle, fun hsounds hlasted => ?half,
    fun hnot => ?halfIdle⟩
  case wrap =>
    have hwaves' : WavesOk (takeWrap s) := by rw [takeWrap, if_pos hdue]; exact hwaves
    rw [exec_rowEvent (f := takeWrap) rfl, restHorns_of_wavesOk hwaves', takeWrap, if_pos hdue]
    rfl
  case wrapIdle => rw [exec_rowEvent (f := takeWrap) rfl, takeWrap_idle hnot, restHorns_of_wavesOk hwaves]
  case gap =>
    have hwaves' : WavesOk (gapEnd s) := by rw [gapEnd, if_pos (hgap.mpr hdue)]; exact hwaves
    rw [exec_rowEvent (f := gapEnd) rfl, restHorns_of_wavesOk hwaves', gapEnd, if_pos (hgap.mpr hdue)]
    rfl
  case gapIdle =>
    have hidle : gapDue s = false := eq_false_of_ne_true fun hdue => by
      obtain ⟨n, hn, hle⟩ := hgap.mp hdue
      exact absurd (hnot n hn) (Nat.not_lt_of_le hle)
    rw [exec_rowEvent (f := gapEnd) rfl, gapEnd_idle hidle, restHorns_of_wavesOk hwaves]
  case half =>
    have hend : halfWaveEnd h s = s.withOutput (s.output.updateHorn h Horn.toggle) := if_pos (hhalf.mpr ⟨hsounds, hlasted⟩)
    refine ⟨s.withOutput (s.output.updateHorn h Horn.toggle), ?_, rfl, horn_updateHorn_self .., fun k hk =>
      horn_updateHorn_other _ _ hk, by cases h <;> rfl, by cases h <;> rfl⟩
    rw [exec_rowEvent (f := halfWaveEnd h) rfl, hend, restHorns_of_wavesOk (wavesOk_toggle hwaves hsounds)]
  case halfIdle =>
    have hidle : halfWaveDue s h = false := eq_false_of_ne_true fun hdue => by
      obtain ⟨hsounds, hlasted⟩ := hhalf.mp hdue
      rcases hnot with hsilent | hearly
      · rw [hsilent] at hsounds; cases hsounds
      · omega
    rw [exec_rowEvent (f := halfWaveEnd h) rfl, halfWaveEnd_idle hidle, restHorns_of_wavesOk hwaves]

/-- Settles O56. -/
theorem refclkPeriod : Obligations.RefclkPeriod := by
  intro s lines keys
  refine ⟨fun hlow => ⟨exec_refclkPeriod_held lines keys hlow, exec_tick_held lines keys hlow⟩,
    fun hrstn hwaves hdue hcount => ?_⟩
  have hmore : s.time.prescaler + 1 < 32 := Nat.succ_lt_succ hcount
  refine ⟨(advanceWaves s).counted, ?_, rfl, rfl, rfl, fun h => horn_advanceWaves hwaves h⟩
  rw [exec_refclkPeriod lines keys hrstn, refclkPeriod_eq, takeDue_idle hdue hwaves, if_pos hmore]

/-- Settles O60: no point requests a horn after RESTART, so that both horns are at rest. -/
theorem restart : Obligations.Restart := by
  intro s hrec
  obtain ⟨hopen, hready⟩ := hrec
  have hsilent (h : HornId) : sounding (restartEvent s) h = false := by
    refine sounding_of_none fun q hq => ?_
    obtain ⟨p, -, rfl⟩ := List.mem_map.mp hq
    exact requesting_of_rest (.inl rfl) h
  refine (atTaking_open hopen _).trans (congrArg Host.Outcome.next ?_)
  simp only [takeRestart, taken, unlessBusy_ready hready, Answer.ok, restHorns, sounding_withPort, hsilent, Bool.false_eq_true,
    if_false]
  rfl

end Sys2Proof.Proofs
end

section
/-! SUPPORT. The release of one group as an event of its own, and CONFIGURE-GROUP (R53, R56, R59). -/

namespace Sys2Proof.Machine

/-! ### The release -/

/-- What the release of a group asks (R56). -/
def askRelease (g : Nat) : Asked := { released := fun G => G.number == g, cleared := fun _ => false }

theorem released_still (ps : List Point) (g : Nat) (H : Group) :
    released (ps.map Moved.still) (askRelease g) H = decide (H.number = g) := by
  simp only [released, askRelease, memberChanged_still, Bool.false_and, Bool.and_false, Bool.or_false, beq_eq_decide]

theorem decideGroup_release_eq (ps : List Point) (g : Nat) (H : Group) :
    decideGroup (ps.map Moved.still) (askRelease g) H =
      if H.number = g ∧ H.state.capturedPoint ≠ none then { H with state := .armed } else H := by
  cases hstate : H.state with
  | disabled => rw [decideGroup_disabled hstate, if_neg fun h => h.2 rfl]
  | armed =>
    rw [if_neg fun h => h.2 rfl]
    simp only [decideGroup, hstate, offers_still]
    rfl
  | captured n =>
    simp only [decideGroup, hstate, released_still, decide_eq_true_eq, GroupState.capturedPoint, ne_eq, reduceCtorEq,
      not_false_eq_true, and_true]

/-- The mark that the release lowers is that of the group's captured point. -/
theorem markMoved_release_iff (ps : List Point) (g : Nat) (H : Group) (n : Nat) :
    markMoved H (decideGroup (ps.map Moved.still) (askRelease g) H) = some n ↔ H.number = g ∧ n ∈ H.state.capturedPoint := by
  rw [markMoved_decideGroup_iff, decideGroup_release_eq]
  cases hstate : H.state with
  | disabled => simp [GroupState.capturedPoint, hstate]
  | armed => simp [GroupState.capturedPoint, hstate]
  | captured m =>
    by_cases hnum : H.number = g
    · simp [GroupState.capturedPoint, hnum]
    · simp [GroupState.capturedPoint, hnum, hstate]

theorem post_singleton (n : Nat) (es : List ChangeEntry) : post [n] es = afterPost n es := by
  have hmark : (es.map fun e => if e.point ∈ [n] then { e with inFlight := false } else e) =
      es.map fun e => if e.point = n then { e with inFlight := false } else e := by simp only [List.mem_singleton]
  have hlisted : (es.any fun e => e.point == n) = decide (n ∈ es.map ChangeEntry.point) := by
    rw [Bool.eq_iff_iff, decide_eq_true_iff, List.any_eq_true, List.mem_map]
    exact exists_congr fun e => and_congr_right fun _ => beq_iff_eq
  by_cases hmem : n ∈ es.map ChangeEntry.point
  · rw [post, hmark, afterPost, if_pos hmem, List.filter_cons_of_neg (by rw [hlisted, decide_eq_true hmem]; decide),
      List.filter_nil, List.map_nil, List.append_nil]
  · have hsame : (es.map fun e => if e.point = n then { e with inFlight := false } else e) = es := by
      refine (List.map_congr_left fun e he => if_neg ?_).trans (List.map_id' es)
      rintro rfl
      exact hmem (List.mem_map_of_mem he)
    rw [post, hmark, hsame, afterPost, if_neg hmem, List.filter_cons_of_pos (by rw [hlisted, decide_eq_false hmem]; decide),
      List.filter_nil]
    rfl

theorem post_capturedPoint (G : Group) (es : List ChangeEntry) :
    post G.state.capturedPoint.toList es = afterReleasePost G es := by
  unfold afterReleasePost
  cases G.state.capturedPoint with
  | none => exact post_nil es
  | some n => exact post_singleton n es

theorem filter_eq_of_nodup {l : List Nat} (h : l.Nodup) {n : Nat} (hn : n ∈ l) : (l.filter fun m => decide (m = n)) = [n] := by
  rw [List.filter_eq, List.count_eq_one_of_mem h hn, List.replicate_one]

/-- The release of a group returns it to ARMED where it is CAPTURED, posts its former captured point, and does nothing else
(R53, R56). -/
theorem releaseEvent_eq {s : State} (h : PanelOk s) {G : Group} (hG : G ∈ s.groups) :
    releaseEvent G.number s =
      { s with
        groups := s.groups.map fun H =>
          if H.number = G.number ∧ H.state.capturedPoint ≠ none then { H with state := .armed } else H
        changes := afterReleasePost G s.changes } := by
  let marks := s.groups.filterMap fun H => markMoved H (decideGroup (s.points.map Moved.still) (askRelease G.number) H)
  have hmarks (n : Nat) : n ∈ marks ↔ n ∈ G.state.capturedPoint := by
    refine List.mem_filterMap.trans ?_
    simp only [markMoved_release_iff]
    constructor
    · rintro ⟨H, hH, hnum, hn⟩
      rwa [h.groupsOk.eq_of_number hH hG hnum] at hn
    · exact fun hn => ⟨G, hG, rfl, hn⟩
  have hposted : posted (s.points.map Moved.still) marks = G.state.capturedPoint.toList := by
    have hcontains (n : Nat) : marks.contains n = decide (n ∈ G.state.capturedPoint) := by
      rw [Bool.eq_iff_iff, List.contains_iff_mem, hmarks, decide_eq_true_iff]
    simp only [posted_still, hcontains]
    cases hcaptured : G.state.capturedPoint with
    | none => exact List.filter_eq_nil_iff.mpr fun n _ => by simp
    | some m =>
      obtain ⟨p, hp, rfl, -⟩ := (h.groupsOk.2 G hG).2 m hcaptured
      simp only [Option.mem_def, Option.some.injEq, eq_comm (a := p.number)]
      exact filter_eq_of_nodup h.ascend.nodup (List.mem_map_of_mem hp)
  have hgroups := List.map_congr_left fun H (_ : H ∈ s.groups) => decideGroup_release_eq s.points G.number H
  have hevent : releaseEvent G.number s =
      { s with
        points := (s.points.map Moved.still).map Moved.point
        groups := s.groups.map (decideGroup (s.points.map Moved.still) (askRelease G.number))
        changes := post (leadWith [] (posted (s.points.map Moved.still) marks)) s.changes
        output := { s.output with gap := gapAfter s ((s.points.map Moved.still).any Moved.alert) } } := rfl
  rw [hevent, points_still, hgroups, hposted, leadWith_nil, post_capturedPoint, alert_still]
  rfl

/-! ### CONFIGURE-GROUP and RELEASE-GROUP -/

theorem releaseOf_of_le {b : Byte} (h : b.toNat ≤ 1) : releaseOf b = some (if b = 0x01 then .manual else .auto) := by
  rw [releaseOf, twoValued_of_le h, Option.map_some]
  simp only [decide_eq_true_eq]

theorem releaseOf_of_lt {b : Byte} (h : 1 < b.toNat) : releaseOf b = none := by
  rw [releaseOf, twoValued_of_lt h, Option.map_none]

theorem configureGroup_refused {group enable release : Byte}
    (h : group.toNat = 0 ∨ 8 < group.toNat ∨ 1 < enable.toNat ∨ 1 < release.toNat) (s : State) :
    configureGroup group enable release s = .refuse s .badArgument := by
  unfold configureGroup
  split
  · next hg he hr =>
    rcases h with h0 | h8 | hen | hrel
    · rw [groupOf_of_lt (.inl h0)] at hg; cases hg
    · rw [groupOf_of_lt (.inr h8)] at hg; cases hg
    · rw [twoValued_of_lt hen] at he; cases he
    · rw [releaseOf_of_lt hrel] at hr; cases hr
  · rfl

/-- The fields are written after the release, which they cover (R59). -/
theorem configureGroupEvent_eq {s : State} (h : PanelOk s) {G : Group} (hG : G ∈ s.groups) (enable : Bool) (release : Release) :
    configureGroupEvent G.number enable release s =
      { s with
        groups := s.groups.map fun H => if H.number = G.number then H.configure enable release else H
        changes := afterReleasePost G s.changes } := by
  have hgroups : (s.groups.map fun H =>
      if H.number = G.number ∧ H.state.capturedPoint ≠ none then { H with state := .armed } else H).map (fun H =>
        if H.number = G.number then H.configure enable release else H) =
      s.groups.map fun H => if H.number = G.number then H.configure enable release else H := by
    rw [List.map_map]
    refine List.map_congr_left fun H _ => ?_
    rw [Function.comp, apply_ite Group.number, ite_self]
    split
    · split <;> rfl
    · next hother => exact if_neg fun h => hother h.1
  rw [configureGroupEvent, releaseEvent_eq h hG]
  exact congrArg (fun gs => { s with groups := gs, changes := afterReleasePost G s.changes }) hgroups

end Sys2Proof.Machine

namespace Sys2Proof.Proofs
open Sys2Proof.Machine

/-- Settles O44: the release posts one point, and CONFIGURE-GROUP writes its fields after it. -/
theorem groupCommands : Obligations.GroupCommands := by
  intro s group enable release hrec hwaves hpanel
  refine ⟨fun hbad => exec_of_effect_ready rfl hrec (configureGroup_refused hbad s) hwaves, fun hbad => ?refused,
    fun G hG hnum => ⟨fun henable hrelease => ?configured, ?released⟩⟩
  case refused =>
    have heffect : releaseGroup group s = .refuse s .badArgument := by rw [releaseGroup, groupOf_of_lt hbad]
    exact exec_of_effect_ready rfl hrec heffect hwaves
  case configured =>
    have heffect : configureGroup group enable release s = .ok { s with
        groups := s.groups.map fun H => if H.number = G.number then
          H.configure (decide (enable = 0x01)) (if release = 0x01 then .manual else .auto) else H
        changes := afterReleasePost G s.changes } := by
      simp only [configureGroup, groupOf_number hpanel.groupsOk hG hnum, twoValued_of_le henable, releaseOf_of_le hrelease,
        configureGroupEvent_eq hpanel hG]
    simp only [Group.configure, decide_eq_true_eq, hnum] at heffect
    exact exec_of_effect_ready rfl hrec heffect hwaves
  case released =>
    have heffect : releaseGroup group s = .ok { s with
        groups := s.groups.map fun H =>
          if H.number = G.number ∧ H.state.capturedPoint ≠ none then { H with state := .armed } else H
        changes := afterReleasePost G s.changes } := by
      simp only [releaseGroup, groupOf_number hpanel.groupsOk hG hnum, releaseEvent_eq hpanel hG]
    rw [hnum] at heffect
    exact exec_of_effect_ready rfl hrec heffect hwaves

end Sys2Proof.Proofs
end

section
/-! SUPPORT. The image that a frame boundary and a warm-up end take (R129, R132). -/

namespace Sys2Proof.Machine

/-- The image of the moment is lit where a cell is shown and lit now (R126, R131, R132). -/
theorem imageShows_frameImage {s : State} (hgroups : GroupsOk s) (hcycle : s.time.cycle < 2048) :
    ImageShows s (frameImage s) := by
  refine ⟨List.length_map .., fun cell hcell => ?_⟩
  have hlt : cell < Config.cellCount := List.mem_range.mp hcell
  have hentry : (frameImage s).getD cell false = (shown s.display cell && litNow s cell) := by
    rw [frameImage, List.getD_eq_getElem?_getD, List.getElem?_map, List.getElem?_range hlt]
    rfl
  rw [hentry, Bool.and_eq_true, shown_iff, litNow_iff hgroups hcycle]

/-- A frame boundary with the drive ACTIVE takes the image of the counter value that it is given, whatever the marks of the
boundary (R132, log 22). -/
theorem takeFrame_active {s : State} (hactive : s.display.drive = .active) (hgroups : GroupsOk s) {c : Nat} (hc : c < 2048)
    (due ahead : Bool) :
    ∃ image ∈ (takeFrame c s).display.image,
      ImageShows ((takeFrame c s).withTime { s.time with cycle := c, frameDue := due, frameAhead := ahead }) image := by
  let u : State := { s with display := { s.display with commons := s.display.commonsPending }, time := { s.time with cycle := c } }
  have hframe : takeFrame c s =
      { s with display := { s.display with commons := s.display.commonsPending, image := some (frameImage u) } } := if_pos hactive
  rw [hframe]
  exact ⟨frameImage u, rfl, imageShows_frameImage (s := u) hgroups hc⟩

theorem takeFrame_inactive {s : State} (hactive : s.display.drive ≠ .active) (c : Nat) :
    (takeFrame c s).display.image = s.display.image := by
  have hframe : takeFrame c s = s.withDisplay { s.display with commons := s.display.commonsPending } := if_neg hactive
  rw [hframe, State.withDisplay_display]

/-- A frame boundary touches nothing that the horns read. -/
theorem wavesOk_takeFrame {s : State} (h : WavesOk s) (c : Nat) (due ahead : Bool) :
    WavesOk ((takeFrame c s).withTime { s.time with frameDue := due, frameAhead := ahead }) := by
  rw [takeFrame_frame]
  exact h

theorem warmUpDue_iff (s : State) : warmUpDue s = true ↔ ∃ n ∈ s.display.drive.count, 64 ≤ n := by
  unfold warmUpDue
  cases s.display.drive with
  | warming n =>
    simp only [Drive.count, Option.mem_def, Option.some.injEq, exists_eq_left']
    exact decide_eq_true_iff
  | off => simp [Drive.count]
  | active => simp [Drive.count]

end Sys2Proof.Machine

namespace Sys2Proof.Proofs
open Sys2Proof.Machine

/-- Settles O51: both boundaries are `takeFrame`, at the counter value of the tick or at the next one. -/
theorem frameAndWarmUp : Obligations.FrameAndWarmUp := by
  intro s hwaves hpanel htime
  obtain ⟨-, hcycle, -⟩ := htime
  have hlead := frameCanLead_iff hcycle
  refine ⟨fun hdue => ?due, ⟨fun hdue hahead => ?ahead, fun hdue hnot => ?idle⟩, fun hdue => ?warm, fun hnot => ?warmIdle⟩
  case due =>
    have hwaves' : WavesOk ((takeFrame s.time.cycle s).withTime { s.time with frameDue := false }) :=
      wavesOk_takeFrame hwaves s.time.cycle false s.time.frameAhead
    refine ⟨(takeFrame s.time.cycle s).withTime { s.time with frameDue := false }, ?_, ?_, fun hactive => ?_, fun hother =>
      takeFrame_inactive hother s.time.cycle⟩
    · rw [exec_rowEvent (f := frameBoundaryRow) rfl, frameBoundaryRow, hdue, Bool.not_true, Bool.false_and,
        if_neg Bool.false_ne_true, frameBoundary, if_pos hdue, restHorns_of_wavesOk hwaves']
    · exact congrArg (State.withTime · _) (takeFrame_frame s.time.cycle s)
    · exact takeFrame_active hactive hpanel.groupsOk hcycle false s.time.frameAhead
  case ahead =>
    have hwaves' : WavesOk (frameAheadEvent s) := wavesOk_takeFrame hwaves (nextCycle s.time.cycle) s.time.frameDue true
    refine ⟨frameAheadEvent s, ?_, ?_, fun hactive => ?_, fun hother => takeFrame_inactive hother (nextCycle s.time.cycle)⟩
    · rw [exec_rowEvent (f := frameBoundaryRow) rfl, frameBoundaryRow, hdue, hlead.mpr hahead, Bool.not_false, Bool.true_and,
        if_pos rfl, restHorns_of_wavesOk hwaves']
    · exact congrArg (State.withTime · _) (takeFrame_frame (nextCycle s.time.cycle) s)
    · rw [← nextCycle_eq hcycle]
      exact takeFrame_active hactive hpanel.groupsOk (nextCycle_lt hcycle) s.time.frameDue true
  case idle =>
    have hstay : frameCanLead s = false := eq_false_of_ne_true fun h => hnot (hlead.mp h)
    rw [exec_rowEvent (f := frameBoundaryRow) rfl, frameBoundaryRow, hdue, hstay, Bool.and_false, if_neg Bool.false_ne_true,
      frameBoundary_idle hdue, restHorns_of_wavesOk hwaves]
  case warm =>
    let u : State := { s with display := { s.display with drive := .active } }
    have hend : warmUpEnd s = { s with display := { s.display with drive := .active, image := some (frameImage u) } } :=
      if_pos ((warmUpDue_iff s).mpr hdue)
    have hwaves' : WavesOk (warmUpEnd s) := by
      rw [hend]
      exact hwaves
    refine ⟨warmUpEnd s, ?_, by rw [hend], ?_⟩
    · rw [exec_rowEvent (f := warmUpEnd) rfl, restHorns_of_wavesOk hwaves']
    · rw [hend]
      exact ⟨frameImage u, rfl, imageShows_frameImage (s := u) hpanel.groupsOk hcycle⟩
  case warmIdle =>
    have hidle : warmUpDue s = false := eq_false_of_ne_true fun hdue => by
      obtain ⟨n, hn, hle⟩ := (warmUpDue_iff s).mp hdue
      exact absurd (hnot n hn) (Nat.not_lt_of_le hle)
    rw [exec_rowEvent (f := warmUpEnd) rfl, warmUpEnd_idle hidle, restHorns_of_wavesOk hwaves]

end Sys2Proof.Proofs
end

section
/-! SUPPORT. The tick unit by unit: the samples, the waves and the timebase (R68 to R70, R82, R145, R190 to R197). -/

namespace Sys2Proof.Machine

/-! ### The samples -/

/-- A flip in the words of R70, for a line that is enabled. -/
theorem flip_eq {L : Line} (h : L.mode ≠ .disabled) (sample : Condition) :
    L.flip sample = { L with
      filtered := sample, runCount := 0, transitions := min 15 (L.transitions + 1), flipped := true
      mode := if L.mode = .chatter ∨ (L.chatterLimit ≠ 0 ∧ L.chatterLimit ≤ min 15 (L.transitions + 1)) then .chatter
        else .tracking } := by
  unfold Line.flip
  cases hmode : L.mode with
  | disabled => exact absurd hmode h
  | tracking => simp only [true_and, reduceCtorEq, false_or]; rfl
  | chatter => simp only [reduceCtorEq, false_and, if_false, true_or, if_true]; rfl

theorem lineSampled_takeLevel (high : Bool) (L : Line) :
    LineSampled high L (L.takeLevel (if high then .high else .low)) := by
  refine ⟨fun hoff => if_pos hoff, fun hon => ?_⟩
  have hlevel : L.takeLevel (if high then .high else .low) =
      ({ L with raw := if high then .high else .low } : Line).filterSample (L.sample (if high then .high else .low)) := if_neg hon
  rw [hlevel]
  refine ⟨fun hsame => if_pos hsame, fun hdiffer hshort => ?_, fun hdiffer hlong => ?_⟩
  · exact (if_neg hdiffer).trans (if_pos hshort)
  · refine ((if_neg hdiffer).trans (if_neg (Nat.not_lt_of_le hlong))).trans ?_
    exact flip_eq (L := { L with raw := if high then .high else .low }) hon _

theorem keySampled_takeLevel (K : KeyRecord) (high acts : Bool) :
    KeySampled high acts K (K.takeLevel high acts) := by
  refine ⟨fun hsame => if_pos hsame, fun hdiffer hshort => ?_, fun hdiffer hlast => ?_⟩
  · exact (if_neg hdiffer).trans (if_pos (Nat.succ_lt_succ hshort))
  · refine ((if_neg hdiffer).trans (if_neg (by rw [hlast]; decide))).trans ?_
    have hraised (sample : KeyState) : (K.due || (sample == .pressed && acts && K.enable)) =
        if sample = .pressed ∧ acts = true ∧ K.enable = true then true else K.due := by
      simp only [Bool.if_true_left, Bool.or_comm K.due, Bool.decide_and, beq_eq_decide, Bool.decide_eq_true, Bool.and_assoc]
    exact congrArg (fun d => { K with filtered := if high then .released else .pressed, runCount := 0, due := d }) (hraised _)

/-- A DISABLED line stays DISABLED at a sample (R68). -/
theorem mode_takeLevel_disabled {L : Line} (h : L.mode = .disabled) (x : Level) : (L.takeLevel x).mode = .disabled := by
  rw [Line.takeLevel, if_pos h]
  exact h

/-- The tick sees a line enter CHATTER (R70). -/
theorem chatterEntered_iff (pins : BitVec 24) (ls : List Line) :
    chatterEntered pins ls = true ↔ ∃ x ∈ ls.zip (sampleLines pins ls), x.1.mode ≠ .chatter ∧ x.2.mode = .chatter := by
  rw [sampleLines, ← List.map_prod_left_eq_zip]
  simp only [chatterEntered, List.any_eq_true, Bool.and_eq_true, beq_iff_eq, List.mem_map, exists_exists_and_eq_and]
  refine exists_congr fun L => and_congr_right fun _ => and_congr_left fun hentered => ?_
  cases hmode : L.mode with
  | disabled => rw [mode_takeLevel_disabled hmode] at hentered; cases hentered
  | tracking => decide
  | chatter => decide

/-! ### The waves -/

theorem horn_tickEvent (lines : BitVec 24) (keys : BitVec 4) (s : State) (k : HornId) :
    (tickEvent lines keys s).output.horn k = restartTone (nextCycle s.time.cycle == 0) (s.output.horn k) := by
  cases k <;> rfl

/-! ### The timebase -/

theorem intervalRuns_iff (s : State) : intervalRuns s.time = true ↔ isReady s = true ∧ s.time.settleAhead = false := by
  rw [intervalRuns, isReady, Bool.and_eq_true, Bool.not_eq_true']

theorem tick_eq {s : State} (h : s.time.cycle < 2048) :
    s.time.tick =
      { prescaler := 0
        cycle := (s.time.cycle + 1) % 2048
        chatterCount := s.time.chatterCount + 1
        leaseInterval := s.time.leaseInterval
        leaseCount :=
          if (isReady s = true ∧ s.time.settleAhead = false) ∧ s.time.leaseInterval ≠ 0 then s.time.leaseCount + 1
          else s.time.leaseCount
        minuteCount :=
          if isReady s = true ∧ s.time.settleAhead = false then s.time.minuteCount + 1 else s.time.minuteCount
        device := s.time.device.tick
        wrapDue := decide ((s.time.cycle + 1) % 2048 = 0)
        frameDue := decide ((s.time.cycle + 1) % 2048 % 16 = 0 ∧ s.time.frameAhead = false)
        settleAhead := false
        frameAhead := false } := by
  have hframe : (framesNext s.time.cycle && !s.time.frameAhead) =
      decide ((s.time.cycle + 1) % 2048 % 16 = 0 ∧ s.time.frameAhead = false) := by
    rw [framesNext, nextCycle_eq h, Bool.eq_iff_iff, Bool.and_eq_true, beq_iff_eq, Bool.not_eq_true', decide_eq_true_iff]
    rfl
  simp only [Timebase.tick, nextCycle_eq h, hframe, Bool.and_eq_true, intervalRuns_iff, bne_iff_ne, beq_eq_decide]

theorem restartTone_eq (wrap : Bool) (x : Horn) :
    restartTone wrap x = { x with wave := if wrap then .rest else x.wave } := by
  cases wrap <;> rfl

/-- The period that would bring the prescaler to 32 is the tick (R190). -/
theorem refclkPeriod_tick {s : State} (hdue : NothingDue s) (hwaves : WavesOk s) (hlast : s.time.prescaler = 31)
    (lines : BitVec 24) (keys : BitVec 4) :
    refclkPeriod lines keys s = restHorns (tickEvent lines keys (advanceWaves s)) := by
  rw [refclkPeriod_eq, takeDue_idle hdue hwaves, if_neg (by rw [hlast]; decide)]

/-- Within the tick a horn's wave goes on where the horn sounds before and after it and the counter does not wrap (R145). -/
theorem horn_tick {s : State} (hwaves : WavesOk s) (hcycle : s.time.cycle < 2048) (lines : BitVec 24) (keys : BitVec 4)
    (k : HornId) :
    let t := restHorns (tickEvent lines keys (advanceWaves s))
    t.output.horn k =
      { s.output.horn k with
        wave :=
          if sounding t k = true ∧ sounding s k = true ∧ (s.time.cycle + 1) % 2048 ≠ 0 then
            { high := (s.output.horn k).wave.high, elapsed := (s.output.horn k).wave.elapsed + 1 }
          else { high := true, elapsed := 0 } } := by
  intro t
  have hwave := restHorns_wave (tickEvent lines keys (advanceWaves s)) k
  have hcount : (advanceWaves s).time.cycle = s.time.cycle := rfl
  rw [horn_tickEvent, horn_advanceWaves hwaves, hcount, nextCycle_eq hcycle, restartTone_eq] at hwave
  refine hwave.trans (congrArg (fun w => { s.output.horn k with wave := w }) ?_)
  unfold waveIn
  by_cases hafter : sounding t k = true
  · by_cases hbefore : sounding s k = true
    · by_cases hwrap : (s.time.cycle + 1) % 2048 = 0
      · simp [hwrap, Wave.rest]
      · simp [hwrap, hbefore, t]
    · simp [hbefore, Wave.rest]
  · simp [hafter, t]

end Sys2Proof.Machine

namespace Sys2Proof.Proofs
open Sys2Proof.Machine

/-- Settles O57, unit by unit. -/
theorem tickEvent : Obligations.TickEvent := by
  intro s lines keys hrstn hwaves hdue _ _ htime hlast
  obtain ⟨-, hcycle, -⟩ := htime
  have hperiod := refclkPeriod_tick hdue hwaves hlast lines keys
  refine ⟨restHorns (Machine.tickEvent lines keys (advanceWaves s)), ?period, ?tick, rfl, List.length_map .., ?lines,
    keySampled_takeLevel .., keySampled_takeLevel .., keySampled_takeLevel .., keySampled_takeLevel .., ?flags, rfl, ?still,
    ?warming, rfl, rfl, fun k _ => horn_tick hwaves hcycle lines keys k, tick_eq hcycle, ?ready, ?settling⟩
  case period => rw [exec_refclkPeriod lines keys hrstn, hperiod]
  case tick =>
    rw [exec_tick lines keys hrstn, hlast]
    exact congrArg Host.Outcome.next hperiod
  case lines =>
    intro x hx
    obtain ⟨-, hsampled⟩ := mem_zip_map hx
    rw [hsampled]
    exact lineSampled_takeLevel ..
  case flags =>
    change (if chatterEntered lines s.lines then _ else _) = _
    simp only [chatterEntered_iff]
    rfl
  case still =>
    intro hnone
    change s.display.drive.tick = s.display.drive
    cases hdrive : s.display.drive with
    | warming n => rw [hdrive] at hnone; cases hnone
    | off => rfl
    | active => rfl
  case warming =>
    intro n hn
    change s.display.drive.tick = _
    cases hdrive : s.display.drive with
    | warming m => rw [hdrive] at hn; cases hn; rfl
    | off => rw [hdrive] at hn; cases hn
    | active => rw [hdrive] at hn; cases hn
  case ready =>
    intro hready
    have hdevice : s.time.device = .ready := beq_iff_eq.mp hready
    change s.time.device.tick = _
    rw [hdevice]
    rfl
  case settling =>
    intro n hn
    change s.time.device.tick = _
    cases hdevice : s.time.device with
    | settling m => rw [hdevice] at hn; cases hn; rfl
    | ready => rw [hdevice] at hn; cases hn

end Sys2Proof.Proofs
end

section
/-! SUPPORT. The commands of a queue taken one after the other (log 8); and time in REFCLK periods (R190, R196, logs 2 and 4). -/

namespace Sys2Proof.Machine

/-! ### Runs -/

theorem run_succ {M : Host.Core} {s t : M.State} (h : M.step s = .next t) (k : Nat) : M.run (k + 1) s = M.run k t := by
  simp only [Host.Core.run, h]

/-- A step takes the front command, with the rest of the queue behind it. -/
theorem run_next {i : Instr} {s t : State} (h : exec i s = .next t) (k : Nat) (rest : List Instr) :
    Host.Core.run core (k + 1) (s.queued (i :: rest)) = Host.Core.run core k (t.queued rest) := by
  have hstep : core.step (s.queued (i :: rest)) = .next (t.queued rest) := by
    refine (exec_queued i s rest).trans ?_
    rw [h]
    rfl
  exact run_succ hstep k

/-- REFCLK periods in the queue are REFCLK periods that pass. -/
theorem run_refclkPeriods (lines : BitVec 24) (keys : BitVec 4) (rest : List Instr) (n : Nat) {s : State} (h : s.rstn = true) :
    Host.Core.run core n (s.queued (List.replicate n (.refclkPeriod lines keys) ++ rest)) =
      .next ((refclkPeriods lines keys n s).queued rest) := by
  induction n generalizing s with
  | zero => rfl
  | succ n ih =>
    rw [List.replicate_succ, List.cons_append, run_next (exec_refclkPeriod lines keys h)]
    exact ih (((inner_refclkPeriod lines keys).rstn s).trans h)

/-! ### The rows of what is due -/

/-- Neither the settle end nor the frame boundary can be taken ahead of its tick (logs 10, 22). -/
def NoneLeads (s : State) : Prop := settleCanLead s = false ∧ frameCanLead s = false

theorem noneLeads_occurs {s t : State} (h : Occurs s t) (hs : NoneLeads s) : NoneLeads t := by
  have hframe : frameCanLead s = false := hs.2
  cases h with
  | settle => exact ⟨rfl, hframe⟩
  | frameAhead hlead => rw [hframe] at hlead; cases hlead
  | key k => cases k <;> exact hs
  | _ => exact hs

/-- A row does what the event does that stands for it among those a REFCLK period takes. -/
def Stands (i : Instr) (f : State → State) : Prop :=
  (∀ s, Happens s (f s)) ∧ ∀ s, NoneLeads s → exec i s = .next (restHorns (f s))

theorem stands_of_rowEvent {i : Instr} {f : State → State} (h : rowEvent i = some f) : Stands i f :=
  ⟨happens_rowEvent h, fun s _ => exec_rowEvent h s⟩

theorem stands_settleEnd : Stands .settleEnd settleEnd := by
  refine ⟨happens_settleEnd, fun s hs => (exec_rowEvent (f := settleEndRow) rfl s).trans ?_⟩
  obtain ⟨hsettle, -⟩ := hs
  rw [settleEndRow, hsettle, Bool.or_false, settleEnd]

theorem stands_frameBoundary : Stands .frameBoundary frameBoundary := by
  refine ⟨happens_frameBoundary, fun s hs => (exec_rowEvent (f := frameBoundaryRow) rfl s).trans ?_⟩
  obtain ⟨-, hframe⟩ := hs
  rw [frameBoundaryRow, hframe, Bool.and_false, if_neg Bool.false_ne_true]

/-- The rows of the events that can be due, in the order in which a REFCLK period takes them. -/
def dueRows : List Instr :=
  [.chatterWindowExpiry, .conditionBatch, .keyAction .ack, .keyAction .silence, .keyAction .clear, .leaseExpiry,
    .minuteExpiry, .settleEnd, .gapEnd, .warmUpEnd, .wrap, .frameBoundary, .halfWaveEnd .horn1, .halfWaveEnd .horn2]

theorem stands_dueRows : List.Forall₂ Stands dueRows dueEvents :=
  .cons (stands_of_rowEvent rfl) <| .cons (stands_of_rowEvent rfl) <| .cons (stands_of_rowEvent rfl) <|
    .cons (stands_of_rowEvent rfl) <| .cons (stands_of_rowEvent rfl) <| .cons (stands_of_rowEvent rfl) <|
    .cons (stands_of_rowEvent rfl) <| .cons stands_settleEnd <| .cons (stands_of_rowEvent rfl) <|
    .cons (stands_of_rowEvent rfl) <| .cons (stands_of_rowEvent rfl) <| .cons stands_frameBoundary <|
    .cons (stands_of_rowEvent rfl) <| .cons (stands_of_rowEvent rfl) .nil

/-- Rows that stand for events, in the queue, are those events taken in turn. -/
theorem run_takeAll {rows : List Instr} {fs : List (State → State)} (h : List.Forall₂ Stands rows fs) (rest : List Instr)
    {s : State} (hs : NoneLeads s) :
    Host.Core.run core rows.length (s.queued (rows ++ rest)) = .next ((takeAll fs s).queued rest) := by
  induction h generalizing s with
  | nil => rfl
  | @cons i f rows fs hrow _ ih =>
    obtain ⟨hhappens, hexec⟩ := hrow
    have hrest : Happens s (restHorns (f s)) := (hhappens s).trans (happens_rest (f s))
    rw [List.length_cons, List.cons_append, run_next (hexec s hs)]
    exact ih (hrest.keeps noneLeads_occurs hs)

/-! ### The period after them -/

theorem nothingDue_queued {s : State} (h : NothingDue s) (queue : List Instr) : NothingDue (s.queued queue) := h

/-- A period that finds everything due taken already is the period that would have taken it (log 2). -/
theorem refclkPeriod_takeDue (lines : BitVec 24) (keys : BitVec 4) (s : State) :
    refclkPeriod lines keys (takeDue s) = refclkPeriod lines keys s := by
  rw [refclkPeriod_eq, refclkPeriod_eq, takeDue_idle (nothingDue_takeDue s) (wavesOk_takeDue s)]

end Sys2Proof.Machine

namespace Sys2Proof.Proofs
open Sys2Proof.Machine

/-- Settles O58: the periods of a TICK by induction on their number, and the rows of what is due against the events that a
period takes. -/
theorem timePassesInRefclkPeriods : Obligations.TimePassesInRefclkPeriods := by
  intro s lines keys rest hrstn htime
  obtain ⟨hprescaler, -⟩ := htime
  refine ⟨?periods, fun hsettle hframe => ⟨(takeDue s).queued rest, run_takeAll stands_dueRows rest ⟨hsettle, hframe⟩,
    nothingDue_queued (nothingDue_takeDue s) rest, ?after⟩⟩
  case periods =>
    have hcount : 32 - s.time.prescaler = 31 - s.time.prescaler + 1 := Nat.succ_sub (Nat.le_of_lt_succ hprescaler)
    have htick : exec (.tick lines keys) (s.queued rest) = requeue rest (exec (.tick lines keys) s) := exec_queued _ s rest
    rw [exec_tick lines keys hrstn] at htick
    rw [hcount]
    exact (run_refclkPeriods lines keys rest _ hrstn).trans htick.symm
  case after =>
    have hkept : (takeDue s).rstn = true := (inner_takeDue.rstn s).trans hrstn
    have hbefore : exec (.refclkPeriod lines keys) (s.queued rest) = requeue rest (exec (.refclkPeriod lines keys) s) :=
      exec_queued _ s rest
    rw [exec_queued, exec_refclkPeriod lines keys hkept, refclkPeriod_takeDue, ← exec_refclkPeriod lines keys hrstn]
    exact hbefore

end Sys2Proof.Proofs
end

section
/-! SUPPORT. A command's bytes clocked in, edge by edge (R158 to R160, log 3). -/

namespace Sys2Proof.Machine

/-! ### The eight edges of a position -/

/-- The transaction `x` after the first `k` bits of the byte `b` in the position in progress, most significant bit first. -/
def Transaction.shifted (x : Transaction) (b : Byte) (k : Nat) : Transaction :=
  { x with shift := BitVec.ofNat 8 (b.toNat / 2 ^ (8 - k)), edges := k }

/-- The bits of a byte down to bit `j`, which is the last of them. -/
theorem toNat_div_pow (b : Byte) (j : Nat) : 2 * (b.toNat / 2 ^ (j + 1)) + (b.getLsbD j).toNat = b.toNat / 2 ^ j := by
  have hbit : (b.getLsbD j).toNat = b.toNat / 2 ^ j % 2 := by
    rw [BitVec.getLsbD, Nat.testBit_eq_decide_div_mod_eq]
    rcases Nat.mod_two_eq_zero_or_one (b.toNat / 2 ^ j) with h | h <;> rw [h] <;> rfl
  rw [hbit, Nat.pow_succ, ← Nat.div_div_eq_div_mul]
  exact Nat.div_add_mod _ 2

/-- One bit more in the position in progress. -/
theorem shift_bit (b : Byte) {k : Nat} (hk : k ≤ 7) :
    BitVec.ofNat 8 (2 * (BitVec.ofNat 8 (b.toNat / 2 ^ (8 - k))).toNat + (b.getLsbD (7 - k)).toNat) =
      BitVec.ofNat 8 (b.toNat / 2 ^ (8 - (k + 1))) := by
  have hbits := toNat_div_pow b (7 - k)
  have hindex : 7 - k + 1 = 8 - k := by omega
  have hnext : 8 - (k + 1) = 7 - k := by omega
  have hsmall : b.toNat / 2 ^ (8 - k) < 256 := (Nat.div_le_self ..).trans_lt b.isLt
  rw [hindex] at hbits
  rw [BitVec.toNat_ofNat, Nat.mod_eq_of_lt hsmall, hbits, hnext]

/-- The edge that shifts bit `k` of a byte in, counted from its most significant bit (R158). -/
def bitEdge (b : Byte) (k : Nat) : Instr := .sckRisingEdge (b.getLsbD (7 - k))

theorem exec_bitEdge {s : State} (hrstn : s.rstn = true) (b : Byte) (k : Nat) (x : Transaction) :
    exec (bitEdge b k) (s.withPort (.active x)) = .next (sckEdge (b.getLsbD (7 - k)) x (s.withPort (.active x))) :=
  exec_sck_active (s := s.withPort (.active x)) _ hrstn rfl

section Position
variable {s : State} (hrstn : s.rstn = true) {x : Transaction} (hreply : x.reply = none) (b : Byte) (n : Nat) (rest : List Instr)
include hrstn hreply

/-- The edges before the eighth fill the position in progress (R158). -/
theorem run_bitEdges (j k : Nat) (hk : k + j ≤ 7) :
    Host.Core.run core (n + j) ((s.withPort (.active (x.shifted b k))).queued ((List.range' k j).map (bitEdge b) ++ rest)) =
      Host.Core.run core n ((s.withPort (.active (x.shifted b (k + j)))).queued rest) := by
  induction j generalizing k with
  | zero => rfl
  | succ j ih =>
    have hedge : exec (bitEdge b k) (s.withPort (.active (x.shifted b k))) =
        .next (s.withPort (.active (x.shifted b (k + 1)))) := by
      have hshort : (x.shifted b k).edges < 7 := by change k < 7; omega
      rw [exec_bitEdge hrstn, sckEdge_shift (x := x.shifted b k) _ _ hreply hshort]
      exact congrArg (fun v => Host.Outcome.next (s.withPort (.active { x with shift := v, edges := k + 1 })))
        (shift_bit b (by omega))
    rw [List.range'_succ, List.map_cons, List.cons_append, ← Nat.add_assoc, run_next hedge, ih (k + 1) (by omega)]
    rw [Nat.add_assoc, Nat.add_comm 1 j]

/-- The eight edges of a byte complete its position (R158, R159). -/
theorem run_position (hshift : x.shift = 0) (hedges : x.edges = 0) :
    Host.Core.run core (n + 8) ((s.withPort (.active x)).queued ((List.range 8).map (bitEdge b) ++ rest)) =
      Host.Core.run core n ((completeOperand b (x.shifted b 7) (s.withPort (.active (x.shifted b 7)))).queued rest) := by
  have hstart : x = x.shifted b 0 := by
    have hzero : BitVec.ofNat 8 (b.toNat / 2 ^ 8) = x.shift := by
      rw [Nat.div_eq_of_lt b.isLt, hshift]
      rfl
    rw [Transaction.shifted, Nat.sub_zero, hzero, ← hedges]
  have hlast : exec (bitEdge b 7) (s.withPort (.active (x.shifted b 7))) =
      .next (completeOperand b (x.shifted b 7) (s.withPort (.active (x.shifted b 7)))) := by
    rw [exec_bitEdge hrstn, sckEdge_complete (x := x.shifted b 7) _ _ hreply (le_refl 7)]
    have hbyte : BitVec.ofNat 8 (2 * (x.shifted b 7).shift.toNat + (b.getLsbD (7 - 7)).toNat) = b := by
      refine (shift_bit b (le_refl 7)).trans ?_
      rw [Nat.sub_self, Nat.pow_zero, Nat.div_one, BitVec.ofNat_toNat, BitVec.setWidth_eq]
    rw [hbyte]
  have hsplit : (List.range 8).map (bitEdge b) ++ rest = (List.range' 0 7).map (bitEdge b) ++ (bitEdge b 7 :: rest) := rfl
  have hfill := run_bitEdges hrstn hreply b (n + 1) (bitEdge b 7 :: rest) 7 0 (le_refl 7)
  rw [← hstart] at hfill
  rw [hsplit]
  exact hfill.trans (run_next hlast n rest)

end Position

/-! ### The bytes of a command -/

/-- From any of a command's bytes on, the edges of those left lead to its taking (R159, R160). -/
theorem run_clocked {i : Instr} {bytes : List Byte} (hb : hostBytes i = some bytes) (hdecode : decodeFrame bytes = .command i)
    (hshort : ∀ n < bytes.length, decodeFrame (bytes.take n) = .incomplete) {s : State} (hrstn : s.rstn = true)
    (rest : List Instr) {x : Transaction} (hreply : x.reply = none) (hshift : x.shift = 0) (hedges : x.edges = 0)
    {b : Byte} {more : List Byte} (hbytes : x.received ++ b :: more = bytes) :
    Host.Core.run core (8 * (b :: more).length) ((s.withPort (.active x)).queued (clocked (b :: more) ++ rest)) =
      .next ((takeCommand i s).queued rest) := by
  induction more generalizing x b with
  | nil =>
    have hposition := run_position hrstn hreply b 0 rest hshift hedges
    have htaken : completeOperand b (x.shifted b 7) (s.withPort (.active (x.shifted b 7))) = takeCommand i s := by
      have hwhole : decodeFrame ((x.shifted b 7).received ++ [b]) = .command i := hbytes ▸ hdecode
      rw [completeOperand_command hwhole, takeCommand_withPort hb]
    rw [htaken] at hposition
    exact hposition
  | cons c more ih =>
    have hposition := run_position hrstn hreply b (8 * (c :: more).length) (clocked (c :: more) ++ rest) hshift hedges
    have hpart : decodeFrame ((x.shifted b 7).received ++ [b]) = .incomplete := by
      have hfirst := hshort (x.received.length + 1) (by rw [← hbytes]; simp)
      have htake : bytes.take (x.received.length + 1) = x.received ++ [b] := by
        rw [← hbytes, List.take_append, List.take_of_length_le (Nat.le_succ _), Nat.add_sub_cancel_left]
        rfl
      rwa [htake] at hfirst
    have hafter : completeOperand b (x.shifted b 7) (s.withPort (.active (x.shifted b 7))) =
        s.withPort (.active
          { received := x.received ++ [b], shift := 0, edges := 0, positions := x.positions + 1, reply := none }) :=
      completeOperand_incomplete hpart _
    have hqueue : clocked (b :: c :: more) ++ rest = (List.range 8).map (bitEdge b) ++ (clocked (c :: more) ++ rest) :=
      List.append_assoc ..
    rw [hafter] at hposition
    rw [hqueue, List.length_cons, Nat.mul_succ]
    refine hposition.trans (ih rfl rfl rfl ?_)
    rw [← hbytes, List.append_assoc]
    rfl

end Sys2Proof.Machine

namespace Sys2Proof.Proofs
open Sys2Proof.Machine

/-- Settles O13: the bytes are clocked into a transaction that has just begun, and the last of them takes the command. -/
theorem clockedBytesTakeCommand : Obligations.ClockedBytesTakeCommand := by
  intro i s bytes rest hw hb hopen
  obtain ⟨hdecode, hshort⟩ := (framesAndBytesAgree i bytes).2 hw hb
  have hrow : exec i (s.queued rest) = .next ((takeCommand i s).queued rest) := by
    rw [exec_queued, exec_eq_atTaking hw hb, atTaking_open hopen]
    rfl
  obtain ⟨hrstn, hport⟩ := hopen
  have hstart : s = s.withPort (.active .fresh) := by
    rw [← hport]
    rfl
  cases bytes with
  | nil => cases hdecode
  | cons b more =>
    have hrun := run_clocked hb hdecode hshort hrstn rest (x := .fresh) rfl rfl rfl rfl
    rw [← hstart] at hrun
    exact hrun.trans hrow.symm

end Sys2Proof.Proofs
end

section
/-! SUPPORT. The display unit, the tones and the gap stay in their ranges (R129, R130, R132, R146, R152). -/

namespace Sys2Proof.Machine

/-! ### The display unit -/

theorem displayOk_takeFrame {s : State} (h : DisplayOk s) (c : Nat) : DisplayOk (takeFrame c s) := by
  obtain ⟨-, -, hlow, hhigh, himage, hlength, hcount⟩ := h
  unfold takeFrame
  dsimp only
  split
  · next hactive =>
    refine ⟨hlow, hhigh, hlow, hhigh, ⟨fun _ => hactive, fun _ => rfl⟩, ?_, hcount⟩
    rintro image ⟨⟩
    exact List.length_map ..
  · exact ⟨hlow, hhigh, hlow, hhigh, himage, hlength, hcount⟩

theorem displayOk_occurs {s t : State} (h : Occurs s t) (hs : DisplayOk s) : DisplayOk t := by
  cases h with
  | warmUp =>
    obtain ⟨hlow, hhigh, hplow, hphigh, -⟩ := hs
    refine ⟨hlow, hhigh, hplow, hphigh, ⟨fun _ => rfl, fun _ => rfl⟩, ?_, nofun⟩
    rintro image ⟨⟩
    exact List.length_map ..
  | frame => exact displayOk_takeFrame hs s.time.cycle
  | frameAhead => exact displayOk_takeFrame hs (nextCycle s.time.cycle)
  | key k => cases k <;> exact hs
  | _ => exact hs

/-- The power operand brings no drive to ACTIVE, and power off discards the image (R128, R132). -/
theorem displayOk_configure {s : State} (h : DisplayOk s) (power quiet : Bool) {c : Nat} (hlow : 1 ≤ c) (hhigh : c ≤ 4) :
    DisplayOk (s.withDisplay (s.display.configure power c quiet)) := by
  obtain ⟨hclow, hchigh, -, -, himage, hlength, hcount⟩ := h
  cases power with
  | false => exact ⟨hclow, hchigh, hlow, hhigh, ⟨nofun, nofun⟩, nofun, nofun⟩
  | true =>
    have hon : (s.withDisplay (s.display.configure true c quiet)).display.drive = s.display.drive.power true := rfl
    refine ⟨hclow, hchigh, hlow, hhigh, ?_, hlength, ?_⟩
    · rw [hon]
      refine himage.trans ?_
      cases s.display.drive with
      | off => exact ⟨nofun, nofun⟩
      | warming n => exact Iff.rfl
      | active => exact Iff.rfl
    · rw [hon]
      cases hdrive : s.display.drive with
      | off =>
        rintro n ⟨⟩
        exact Nat.zero_le _
      | warming n => rwa [hdrive] at hcount
      | active => exact nofun

theorem display_reconfigureLine (n : Nat) (c : LineSettings) (s : State) : (reconfigureLine n c s).display = s.display := by
  unfold reconfigureLine
  dsimp only
  split <;> rfl

theorem displayOk_admitted {marking : Prop} {s t : State} (h : Admitted marking s t) (hs : DisplayOk s) : DisplayOk t := by
  cases h with
  | configureInput =>
    rw [DisplayOk, display_reconfigureLine]
    exact displayOk_occurs .rest ((happens_conditionBatch s).keeps displayOk_occurs hs)
  | display p q hlow hhigh => exact displayOk_configure hs p q hlow hhigh
  | _ => exact hs

/-- A warm-up count that is not at its end has room for a tick (R129). -/
theorem displayOk_tickEvent {s : State} (hdue : warmUpDue s = false) (hs : DisplayOk s) (lines : BitVec 24) (keys : BitVec 4) :
    DisplayOk (tickEvent lines keys s) := by
  obtain ⟨hlow, hhigh, hplow, hphigh, himage, hlength, -⟩ := hs
  have hticked : (tickEvent lines keys s).display.drive = s.display.drive.tick := rfl
  refine ⟨hlow, hhigh, hplow, hphigh, ?_, hlength, ?_⟩
  · rw [hticked]
    refine himage.trans ?_
    cases s.display.drive with
    | off => exact Iff.rfl
    | warming n => exact ⟨nofun, nofun⟩
    | active => exact Iff.rfl
  · rw [hticked]
    unfold warmUpDue at hdue
    cases hdrive : s.display.drive with
    | off => exact nofun
    | warming n =>
      rw [hdrive] at hdue
      rintro m ⟨⟩
      exact Nat.lt_of_not_le (of_decide_eq_false hdue)
    | active => exact nofun

theorem kept_displayOk : Kept DisplayOk where
  within _ h := h
  reset := by decide
  admitted _ h := displayOk_admitted h
  flags _ h := h
  removed _ h := h
  occurs := displayOk_occurs
  advanced h := h
  counted _ h := h
  ticked lines keys hdue _ h := by
    obtain ⟨-, -, -, -, -, -, -, -, -, hwarm, -⟩ := hdue
    exact displayOk_tickEvent (s := advanceWaves _) hwarm h lines keys

/-! ### The tones -/

/-- The tone numbers of a horn are 1 to 63 (R146). -/
def Horn.InTune (x : Horn) : Prop := (1 ≤ x.tone ∧ x.tone ≤ 63) ∧ ∀ n ∈ x.tonePending, 1 ≤ n ∧ n ≤ 63

theorem inTune_takeTone {x : Horn} (h : x.InTune) : x.takeTone.InTune := by
  obtain ⟨htone, hpending⟩ := h
  refine ⟨?_, nofun⟩
  change 1 ≤ x.tonePending.getD x.tone ∧ x.tonePending.getD x.tone ≤ 63
  cases hp : x.tonePending with
  | none => exact htone
  | some n => exact hpending n hp

theorem inTune_configure {x : Horn} (h : x.InTune) (enable : Bool) {n : Nat} (hlow : 1 ≤ n) (hhigh : n ≤ 63) :
    (x.configure enable n).InTune := by
  obtain ⟨htone, -⟩ := h
  refine ⟨htone, ?_⟩
  rintro m ⟨⟩
  exact ⟨hlow, hhigh⟩

/-- The wave of a horn plays no part in its tone numbers. -/
theorem inTune_withWave {x : Horn} (h : x.InTune) (w : Wave) : ({ x with wave := w } : Horn).InTune := h

theorem inTune_restartTone {x : Horn} (h : x.InTune) (wrap : Bool) : (restartTone wrap x).InTune := by
  rw [restartTone_eq]
  exact h

/-- Both horns. -/
def TonesOk (s : State) : Prop := s.output.horn1.InTune ∧ s.output.horn2.InTune

theorem tonesOk_updateHorn {s : State} (h : TonesOk s) (k : HornId) {f : Horn → Horn}
    (hf : ∀ x : Horn, x.InTune → (f x).InTune) :
    TonesOk (s.withOutput (s.output.updateHorn k f)) := by
  obtain ⟨h1, h2⟩ := h
  cases k with
  | horn1 => exact ⟨hf _ h1, h2⟩
  | horn2 => exact ⟨h1, hf _ h2⟩

theorem tonesOk_restHorns {s : State} (h : TonesOk s) : TonesOk (restHorns s) := by
  obtain ⟨h1, h2⟩ := h
  constructor
  · rw [restHorns_horn1]
    split
    · exact h1
    · exact inTune_withWave h1 .rest
  · rw [restHorns_horn2]
    split
    · exact h2
    · exact inTune_withWave h2 .rest

theorem tonesOk_occurs {s t : State} (h : Occurs s t) (hs : TonesOk s) : TonesOk t := by
  cases h with
  | rest => exact tonesOk_restHorns hs
  | wrap =>
    obtain ⟨h1, h2⟩ := hs
    exact ⟨inTune_takeTone h1, inTune_takeTone h2⟩
  | halfWave k => exact tonesOk_updateHorn hs k fun x hx => inTune_withWave hx _
  | frame => rw [TonesOk, State.withTime_output, takeFrame_output]; exact hs
  | frameAhead => rw [TonesOk, frameAheadEvent, State.withTime_output, takeFrame_output]; exact hs
  | key k => cases k <;> exact hs
  | _ => exact hs

theorem tonesOk_reconfigureLine {s : State} (h : TonesOk s) (n : Nat) (c : LineSettings) : TonesOk (reconfigureLine n c s) := by
  unfold reconfigureLine
  dsimp only
  split <;> exact h

theorem tonesOk_admitted {marking : Prop} {s t : State} (h : Admitted marking s t) (hs : TonesOk s) : TonesOk t := by
  cases h with
  | configureInput =>
    exact tonesOk_reconfigureLine (tonesOk_occurs .rest ((happens_conditionBatch s).keeps tonesOk_occurs hs)) _ _
  | horn k e r hlow hhigh => exact tonesOk_updateHorn hs k fun x hx => inTune_configure hx e hlow hhigh
  | _ => exact hs

theorem tonesOk_advanceWaves {s : State} (h : TonesOk s) : TonesOk (advanceWaves s) := by
  obtain ⟨h1, h2⟩ := h
  constructor
  · change (if sounding s .horn1 then s.output.horn1.advance else s.output.horn1).InTune
    split
    · exact inTune_withWave h1 _
    · exact h1
  · change (if sounding s .horn2 then s.output.horn2.advance else s.output.horn2).InTune
    split
    · exact inTune_withWave h2 _
    · exact h2

theorem tonesOk_tickEvent {s : State} (h : TonesOk s) (lines : BitVec 24) (keys : BitVec 4) : TonesOk (tickEvent lines keys s) := by
  obtain ⟨h1, h2⟩ := h
  exact ⟨inTune_restartTone h1 _, inTune_restartTone h2 _⟩

theorem kept_tonesOk : Kept TonesOk where
  within _ h := h
  reset := ⟨⟨by decide, nofun⟩, by decide, nofun⟩
  admitted _ h := tonesOk_admitted h
  flags _ h := h
  removed _ h := h
  occurs := tonesOk_occurs
  advanced := tonesOk_advanceWaves
  counted _ h := h
  ticked lines keys _ _ h := tonesOk_tickEvent (tonesOk_advanceWaves h) lines keys

/-! ### The gap -/

/-- A gap count is at most 512 (R152). -/
def GapInRange (gap : Option Nat) : Prop := ∀ n ∈ gap, n ≤ Config.gapLength

/-- A gap that an event begins counts from 0 (R151). -/
theorem gapInRange_gapAfter {s : State} (h : GapInRange s.output.gap) (entered : Bool) : GapInRange (gapAfter s entered) := by
  unfold gapAfter
  split
  · rintro n ⟨⟩
    exact Nat.zero_le _
  · exact h

def GapOk (s : State) : Prop := GapInRange s.output.gap

theorem gapOk_pointEventWith {s : State} (h : GapOk s) (lead : List Nat) (ask : Asked) (f : Point → Moved) :
    GapOk (pointEventWith lead ask f s) := gapInRange_gapAfter h _

theorem gapOk_occurs {s t : State} (h : Occurs s t) (hs : GapOk s) : GapOk t := by
  cases h with
  | batch => exact gapOk_pointEventWith hs [] .nothing _
  | key k =>
    cases k with
    | silence => exact hs
    | ack => exact gapOk_pointEventWith (s := s.withKeys (s.keys.takeDue .ack)) hs [] .nothing _
    | clear => exact gapOk_pointEventWith (s := s.withKeys (s.keys.takeDue .clear)) hs [] _ _
  | lease => exact gapOk_pointEventWith hs [] .nothing _
  | minute =>
    exact gapOk_pointEventWith (s := (s.withShelf _).withTime { s.time with minuteCount := 0 }) hs (runOut s.shelf) .nothing _
  | settle => exact gapOk_pointEventWith hs [] .nothing _
  | gap => exact nofun
  | halfWave k => cases k <;> exact hs
  | frame => rw [GapOk, State.withTime_output, takeFrame_output]; exact hs
  | frameAhead => rw [GapOk, frameAheadEvent, State.withTime_output, takeFrame_output]; exact hs
  | _ => exact hs

theorem gapOk_reconfigureLine {s : State} (h : GapOk s) (n : Nat) (c : LineSettings) : GapOk (reconfigureLine n c s) := by
  unfold reconfigureLine
  dsimp only
  split
  · exact h
  · exact gapOk_pointEventWith (s := s.withLines _) h [] .nothing _

theorem gapOk_admitted {marking : Prop} {s t : State} (h : Admitted marking s t) (hs : GapOk s) : GapOk t := by
  cases h with
  | configureInput => exact gapOk_reconfigureLine (gapOk_occurs .rest ((happens_conditionBatch s).keeps gapOk_occurs hs)) _ _
  | restart => exact nofun
  | horn k => cases k <;> exact hs
  | marks | notify | retire | silence | reshelve | keys | display | override => exact hs
  | @define d =>
    exact gapOk_pointEventWith (s := s.withPoints (insertPoint { defn := d, run := .initial } s.points)) hs [] .nothing _
  | modify | assert | refresh | lease | acknowledge | clear | shelve | unshelve | configureGroup | releaseGroup =>
    exact gapInRange_gapAfter hs _

theorem gapOk_tickEvent {s : State} (hdue : gapDue s = false) (lines : BitVec 24) (keys : BitVec 4) :
    GapOk (tickEvent lines keys s) := by
  intro n hn
  obtain ⟨m, hm, rfl⟩ := Option.mem_map.mp hn
  refine Nat.lt_of_not_le fun hle => ?_
  have hend : gapDue s = true := (Option.any_eq_true ..).mpr ⟨m, hm, decide_eq_true hle⟩
  rw [hdue] at hend
  cases hend

theorem kept_gapOk : Kept GapOk where
  within _ h := h
  reset := nofun
  admitted _ h := gapOk_admitted h
  flags _ h := h
  removed _ h := h
  occurs := gapOk_occurs
  advanced h := h
  counted _ h := h
  ticked lines keys hdue _ _ := by
    obtain ⟨-, -, -, -, -, -, -, -, hgap, -⟩ := hdue
    exact gapOk_tickEvent (s := advanceWaves _) hgap lines keys

end Sys2Proof.Machine
end

section
/-! SUPPORT. Where a command can lead, told once with the port in view: the pins, the edges of a transaction, its taking and its
end, the resets, and the events (R158 to R162, R178, R190, R198). -/

namespace Sys2Proof.Machine

/-- The transaction after an edge that takes no command (R158, R161). -/
inductive Transaction.Shifts (x : Transaction) : Transaction → Prop
  | bit (hreply : x.reply = none) (hedges : x.edges < 7) (v : Byte) : x.Shifts { x with shift := v, edges := x.edges + 1 }
  | operand (hreply : x.reply = none) {b : Byte} (hframe : decodeFrame (x.received ++ [b]) = .incomplete) :
      x.Shifts { received := x.received ++ [b], shift := 0, edges := 0, positions := x.positions + 1, reply := none }
  | replyBit (hreply : x.reply ≠ none) (hedges : x.edges < 7) : x.Shifts { x with edges := x.edges + 1 }
  | replyByte (hreply : x.reply ≠ none) : x.Shifts { x with edges := 0, positions := x.positions + 1 }

/-- An edge shifts, or it takes a command. -/
theorem sckEdge_cases (si : Bool) (x : Transaction) (s : State) :
    (∃ y, x.Shifts y ∧ sckEdge si x s = s.withPort (.active y)) ∨
      (x.reply = none ∧ ∃ i bytes, i.WellFormed ∧ hostBytes i = some bytes ∧ sckEdge si x s = takeCommand i s) := by
  by_cases hreply : x.reply = none
  · by_cases hedges : x.edges < 7
    · exact .inl ⟨_, .bit hreply hedges _, sckEdge_shift si s hreply hedges⟩
    · have hcomplete := sckEdge_complete si s hreply (Nat.le_of_not_lt hedges)
      cases hframe : decodeFrame (x.received ++ [BitVec.ofNat 8 (2 * x.shift.toNat + si.toNat)]) with
      | incomplete => exact .inl ⟨_, .operand hreply hframe, hcomplete.trans (completeOperand_incomplete hframe s)⟩
      | command i =>
        obtain ⟨hw, bytes, hb⟩ := decodeFrame_wellFormed hframe
        exact .inr ⟨hreply, i, bytes, hw, hb, hcomplete.trans (completeOperand_command hframe s)⟩
  · by_cases hedges : x.edges < 7
    · exact .inl ⟨_, .replyBit hreply hedges, sckEdge_replied si s hreply hedges⟩
    · exact .inl ⟨_, .replyByte hreply, sckEdge_replied_complete si s hreply (Nat.le_of_not_lt hedges)⟩

/-- Where a command can lead. -/
inductive Leads (s : State) : State → Prop
  | still : Leads s s
  | csFall (hcs : s.cs = true) : Leads s ((s.withPins s.rstn false).withPort (if s.rstn then .active .fresh else .idle))
  | csRise (hclosed : s.rstn = false ∨ s.port.transaction = none) : Leads s ((s.withPins s.rstn true).withPort .idle)
  | ended {x : Transaction} (hx : x ∈ s.port.transaction) :
      Leads s (restHorns ((endTransaction x (s.withPins s.rstn true)).withPort .idle))
  | shifted {x y : Transaction} (hx : x ∈ s.port.transaction) (hy : x.Shifts y) : Leads s (s.withPort (.active y))
  | taken {x : Transaction} {i : Instr} {bytes : List Byte} (hx : x ∈ s.port.transaction) (hreply : x.reply = none)
      (hw : i.WellFormed) (hb : hostBytes i = some bytes) : Leads s (takeCommand i s)
  | pinReset : Leads s (resetValues s false s.cs .idle)
  | released : Leads s (resetValues s true s.cs (if s.cs then .idle else .ignoring))
  | periods (lines : BitVec 24) (keys : BitVec 4) (n : Nat) : Leads s (refclkPeriods lines keys n s)
  | event {i : Instr} {f : State → State} (hi : rowEvent i = some f) : Leads s (restHorns (f s))

theorem leads_host {i : Instr} {bytes : List Byte} (hb : hostBytes i = some bytes) {s t : State} (h : exec i s = .next t) :
    Leads s t := by
  have hw := wellFormed_of_exec h
  rw [exec_eq_atTaking hw hb] at h
  cases h
  split
  · next hopen =>
    obtain ⟨-, hport⟩ := hopen
    have hx : Transaction.fresh ∈ s.port.transaction := by rw [hport]; rfl
    exact .taken hx rfl hw hb
  · exact .still

theorem leads_row {i : Instr} {f : State → State} (hi : rowEvent i = some f) {s t : State} (h : exec i s = .next t) :
    Leads s t := by
  cases (exec_rowEvent hi s).symm.trans h
  exact .event hi

theorem leads_csRise {s t : State} (h : exec .csRise s = .next t) : Leads s t := by
  cases hcs : s.cs with
  | true =>
    cases (exec_csRise_high hcs).symm.trans h
    exact .still
  | false =>
    rcases port_cases s with hclosed | ⟨x, hrstn, hport⟩
    · cases (exec_csRise_idle hcs hclosed).symm.trans h
      exact .csRise hclosed
    · cases (exec_csRise_active hrstn hcs hport).symm.trans h
      exact .ended (by rw [hport]; rfl)

theorem leads_sckRisingEdge {si : Bool} {s t : State} (h : exec (.sckRisingEdge si) s = .next t) : Leads s t := by
  rcases port_cases s with hclosed | ⟨x, hrstn, hport⟩
  · cases (exec_sck_ignored si hclosed).symm.trans h
    exact .still
  · cases (exec_sck_active si hrstn hport).symm.trans h
    have hx : x ∈ s.port.transaction := by rw [hport]; rfl
    rcases sckEdge_cases si x s with ⟨y, hy, hedge⟩ | ⟨hreply, i, bytes, hw, hb, hedge⟩
    · rw [hedge]
      exact .shifted hx hy
    · rw [hedge]
      exact .taken hx hreply hw hb

/-- Every command leads to one of these. -/
theorem leads_of_exec {i : Instr} {s t : State} (h : exec i s = .next t) : Leads s t := by
  cases i with
  | csFall =>
    cases h
    split
    · next hcs => exact .csFall hcs
    · exact .still
  | csRise => exact leads_csRise h
  | sckRisingEdge si => exact leads_sckRisingEdge h
  | pinReset => cases h; exact .pinReset
  | rstnRelease =>
    cases h
    split
    · exact .still
    · exact .released
  | tick lines keys =>
    cases h
    split
    · exact .periods lines keys _
    · exact .still
  | refclkPeriod lines keys =>
    cases h
    split
    · exact .periods lines keys 1
    · exact .still
  | conditionBatch | keyAction | chatterWindowExpiry | leaseExpiry | minuteExpiry | wrap | frameBoundary | warmUpEnd | gapEnd
  | settleEnd | halfWaveEnd =>
    exact leads_row rfl h
  | _ => exact leads_host rfl h

/-- A step leads where its command leads, the queue aside. -/
theorem step_cases {s t : State} (h : step s = .next t) : t = s ∨ ∃ queue, Leads (s.queued queue) t := by
  unfold step at h
  split at h
  · cases h
    exact .inl rfl
  · exact .inr ⟨_, leads_of_exec h⟩

/-! ### The waves at rest (R145) -/

theorem sounding_advanceWaves (s : State) (k : HornId) : sounding (advanceWaves s) k = sounding s k := by
  have henable : ((advanceWaves s).output.horn k).enable = (s.output.horn k).enable := by
    cases k with
    | horn1 =>
      change (if sounding s .horn1 then s.output.horn1.advance else s.output.horn1).enable = _
      split <;> rfl
    | horn2 =>
      change (if sounding s .horn2 then s.output.horn2.advance else s.output.horn2).enable = _
      split <;> rfl
  unfold sounding
  rw [henable]
  rfl

theorem wavesOk_advanceWaves {s : State} (h : WavesOk s) : WavesOk (advanceWaves s) := by
  have hrest (k : HornId) (hsilent : sounding (advanceWaves s) k = false) : ((advanceWaves s).output.horn k).wave = .rest := by
    rw [sounding_advanceWaves] at hsilent
    rw [horn_advanceWaves h, hsilent]
    rfl
  exact ⟨hrest .horn1, hrest .horn2⟩

theorem wavesOk_refclkPeriod (lines : BitVec 24) (keys : BitVec 4) (s : State) : WavesOk (refclkPeriod lines keys s) := by
  have hdue := wavesOk_takeDue s
  rw [refclkPeriod_eq]
  generalize takeDue s = u at hdue
  split
  · exact wavesOk_advanceWaves hdue
  · exact wavesOk_restHorns _

theorem wavesOk_resetValues (s : State) (rstn cs : Bool) (p : Port) : WavesOk (resetValues s rstn cs p) := by
  have hreset : WavesOk State.reset := by decide
  exact hreset

theorem wavesOk_takeCommand {i : Instr} {bytes : List Byte} (hb : hostBytes i = some bytes) (s : State) :
    WavesOk (takeCommand i s) := by
  rw [takeCommand_eq hb]
  exact wavesOk_restHorns _

/-- Every command leaves a horn that does not sound at rest. -/
theorem wavesOk_leads {s t : State} (h : Leads s t) (hs : WavesOk s) : WavesOk t := by
  cases h with
  | still => exact hs
  | csFall | csRise | shifted => exact hs
  | ended => exact wavesOk_restHorns _
  | taken _ _ _ hb => exact wavesOk_takeCommand hb s
  | pinReset | released => exact wavesOk_resetValues ..
  | periods lines keys n =>
    cases n with
    | zero => exact hs
    | succ n =>
      have hfirst := wavesOk_refclkPeriod lines keys s
      rw [refclkPeriods]
      generalize refclkPeriod lines keys s = u at hfirst
      induction n generalizing u with
      | zero => exact hfirst
      | succ n ih => exact ih _ (wavesOk_refclkPeriod lines keys u)
  | event => exact wavesOk_restHorns _

end Sys2Proof.Machine
end

section
/-! The statement about the display and the outputs. -/

namespace Sys2Proof.Proofs
open Sys2Proof.Machine

theorem outputOk_iff (s : State) : OutputOk s ↔ TonesOk s ∧ WavesOk s ∧ GapOk s := by
  constructor
  · rintro ⟨⟨hlow1, hhigh1, hpending1, hwave1⟩, ⟨hlow2, hhigh2, hpending2, hwave2⟩, hgap⟩
    exact ⟨⟨⟨⟨hlow1, hhigh1⟩, hpending1⟩, ⟨hlow2, hhigh2⟩, hpending2⟩, ⟨hwave1, hwave2⟩, hgap⟩
  · rintro ⟨⟨⟨⟨hlow1, hhigh1⟩, hpending1⟩, ⟨hlow2, hhigh2⟩, hpending2⟩, ⟨hwave1, hwave2⟩, hgap⟩
    exact ⟨⟨hlow1, hhigh1, hpending1, hwave1⟩, ⟨hlow2, hhigh2, hpending2, hwave2⟩, hgap⟩

/-- Settles O10: the ranges are invariants of the units; that silent horns are at rest is what every command leaves. -/
theorem stepKeepsDisplayAndOutputs : Obligations.StepKeepsDisplayAndOutputs := by
  rintro s t ⟨hdisplay, houtput⟩ h
  obtain ⟨htones, hwaves, hgap⟩ := (outputOk_iff s).mp houtput
  have hwaves' : WavesOk t := by
    rcases step_cases h with rfl | ⟨queue, hleads⟩
    · exact hwaves
    · exact wavesOk_leads hleads hwaves
  exact ⟨kept_displayOk.step h hdisplay, (outputOk_iff t).mpr ⟨kept_tonesOk.step h htones, hwaves', kept_gapOk.step h hgap⟩⟩

end Sys2Proof.Proofs
end

section
/-! SUPPORT. The port and the in-flight marks of the change list (R158, R159, R170 to R172, R174, R178). -/

namespace Sys2Proof.Machine

/-! ### The entries in flight -/

/-- How many entries of a change list are in flight. -/
def inFlightCount (es : List ChangeEntry) : Nat := es.countP fun e => e.inFlight

theorem inFlightCount_append (es es' : List ChangeEntry) : inFlightCount (es ++ es') = inFlightCount es + inFlightCount es' :=
  List.countP_append

theorem inFlightCount_of_clear {es : List ChangeEntry} (h : ∀ e ∈ es, e.inFlight = false) : inFlightCount es = 0 :=
  List.countP_eq_zero.mpr fun e he => by rw [h e he]; exact Bool.false_ne_true

/-- A post marks nothing, and clears the mark of an entry whose point it posts (R171). -/
theorem inFlightCount_post (ns : List Nat) (es : List ChangeEntry) : inFlightCount (post ns es) ≤ inFlightCount es := by
  have hadded : inFlightCount ((ns.filter fun n => !es.any fun e => e.point == n).map fun n =>
      { point := n, inFlight := false }) = 0 := by
    refine inFlightCount_of_clear fun e he => ?_
    obtain ⟨n, -, rfl⟩ := List.mem_map.mp he
    rfl
  rw [post, inFlightCount_append, hadded, Nat.add_zero, inFlightCount, List.countP_map]
  refine List.countP_mono_left fun e _ hmark => ?_
  dsimp only [Function.comp] at hmark
  split at hmark
  · cases hmark
  · exact hmark

/-- READ-CHANGES marks as many entries as it reports (R172). -/
theorem inFlightCount_markInFlight (c : Nat) (es : List ChangeEntry) :
    inFlightCount (markInFlight c es) ≤ c + inFlightCount es := by
  rw [markInFlight, inFlightCount_append]
  refine Nat.add_le_add ?_ (List.drop_sublist c es).countP_le
  refine List.countP_le_length.trans ?_
  rw [List.length_map]
  exact List.length_take_le ..

/-- The CS rise of a READ-CHANGES discards every mark (R174). -/
theorem inFlightCount_settleEntries (positions i : Nat) (es : List ChangeEntry) :
    inFlightCount (settleEntries positions i es) = 0 := by
  rw [settleEntries_eq]
  refine inFlightCount_of_clear fun e he => ?_
  obtain ⟨x, -, rfl⟩ := List.mem_map.mp he
  rfl

/-- The entries of the part that are in flight. -/
def State.marks (s : State) : Nat := inFlightCount s.changes

theorem marks_pointEventWith (lead : List Nat) (ask : Asked) (f : Point → Moved) (s : State) :
    (pointEventWith lead ask f s).marks ≤ s.marks := inFlightCount_post _ s.changes

/-- No event marks an entry (R171). -/
theorem marks_occurs {s t : State} (h : Occurs s t) : t.marks ≤ s.marks := by
  cases h with
  | batch => exact marks_pointEventWith [] .nothing _ s
  | key k =>
    cases k with
    | silence => exact le_refl _
    | ack => exact marks_pointEventWith [] .nothing _ (s.withKeys (s.keys.takeDue .ack))
    | clear => exact marks_pointEventWith [] _ _ (s.withKeys (s.keys.takeDue .clear))
  | lease => exact marks_pointEventWith [] .nothing _ s
  | minute => exact marks_pointEventWith (runOut s.shelf) .nothing _ ((s.withShelf _).withTime { s.time with minuteCount := 0 })
  | settle => exact marks_pointEventWith [] .nothing _ s
  | frame => rw [State.marks, State.withTime_changes, takeFrame_changes]; exact le_refl _
  | frameAhead => rw [State.marks, frameAheadEvent, State.withTime_changes, takeFrame_changes]; exact le_refl _
  | _ => exact le_refl _

theorem marks_happens {s t : State} (h : Happens s t) : t.marks ≤ s.marks := by
  induction h with
  | refl => exact le_refl _
  | tail _ hstep ih => exact (marks_occurs hstep).trans ih

theorem marks_reconfigureLine (n : Nat) (c : LineSettings) (s : State) : (reconfigureLine n c s).marks ≤ s.marks := by
  unfold reconfigureLine
  dsimp only
  split
  · exact le_refl _
  · exact marks_pointEventWith [] .nothing _ (s.withLines _)

/-- No command marks an entry but one that may, and then at most 16 (R172). -/
theorem marks_admitted {marking : Prop} {s t : State} (h : Admitted marking s t) :
    t.marks ≤ s.marks ∨ (marking ∧ t.marks ≤ 16 + s.marks) := by
  cases h with
  | marks hmarking hle =>
    exact .inr ⟨hmarking, (inFlightCount_markInFlight _ s.changes).trans (Nat.add_le_add_right hle _)⟩
  | restart => exact .inl (Nat.zero_le _)
  | retire => exact .inl List.filter_sublist.countP_le
  | notify | silence | reshelve | keys | display | override | horn => exact .inl (le_refl _)
  | @define d =>
    exact .inl (marks_pointEventWith [] .nothing _ (s.withPoints (insertPoint { defn := d, run := .initial } s.points)))
  | configureInput =>
    exact .inl ((marks_reconfigureLine ..).trans ((marks_occurs .rest).trans (marks_happens (happens_conditionBatch s))))
  | modify | assert | refresh | lease | acknowledge | clear | shelve | unshelve | configureGroup | releaseGroup =>
    exact .inl (inFlightCount_post _ s.changes)

theorem marks_performed {marking : Prop} {s t : State} (h : Performed marking s t) :
    t.marks ≤ s.marks ∨ (marking ∧ t.marks ≤ 16 + s.marks) := by
  cases h with
  | nothing | flags => exact .inl (le_refl _)
  | admitted _ h => exact marks_admitted h

theorem marks_refclkPeriod (lines : BitVec 24) (keys : BitVec 4) (s : State) : (refclkPeriod lines keys s).marks ≤ s.marks := by
  have hdue := marks_happens (happens_takeDue s)
  rw [refclkPeriod_eq]
  generalize takeDue s = u at hdue
  split <;> exact hdue

theorem marks_refclkPeriods (lines : BitVec 24) (keys : BitVec 4) (n : Nat) (s : State) :
    (refclkPeriods lines keys n s).marks ≤ s.marks := by
  induction n generalizing s with
  | zero => exact le_refl _
  | succ n ih => exact (ih _).trans (marks_refclkPeriod lines keys s)

/-! ### The invariant -/

theorem inFlightOk_iff (s : State) :
    InFlightOk s ↔ s.marks ≤ 16 ∧ (0 < s.marks →
      ∃ t ∈ s.port.transaction, t.received.length = 2 ∧ t.received.head? = some 0x02 ∧ t.reply.isSome = true) :=
  and_congr Iff.rfl (imp_congr_left List.countP_pos_iff.symm)

theorem inFlightOk_of_zero {s : State} (h : s.marks = 0) : InFlightOk s :=
  (inFlightOk_iff s).mpr ⟨h ▸ Nat.zero_le _, fun hpos => absurd hpos (h ▸ Nat.lt_irrefl 0)⟩

/-- The invariant goes with the port and the marks alone. -/
theorem inFlightOk_of_le {s t : State} (hport : t.port = s.port) (hle : t.marks ≤ s.marks) (hs : InFlightOk s) : InFlightOk t := by
  obtain ⟨hroom, hread⟩ := (inFlightOk_iff s).mp hs
  rw [inFlightOk_iff, hport]
  exact ⟨hle.trans hroom, fun hpos => hread (hpos.trans_le hle)⟩

/-- Without a transaction of a taken READ-CHANGES no entry is in flight (R170). -/
theorem marks_eq_zero {s : State} (hs : InFlightOk s)
    (h : ∀ t ∈ s.port.transaction, t.received.length = 2 → t.received.head? = some 0x02 → t.reply = none) :
    s.marks = 0 := by
  obtain ⟨-, hread⟩ := (inFlightOk_iff s).mp hs
  refine Nat.eq_zero_of_not_pos fun hpos => ?_
  obtain ⟨t, ht, hlength, hhead, hreply⟩ := hread hpos
  rw [h t ht hlength hhead] at hreply
  cases hreply

theorem transaction_unique {p : Port} {x y : Transaction} (hx : x ∈ p.transaction) (hy : y ∈ p.transaction) : x = y :=
  Option.mem_unique hx hy

theorem portOk_of_surroundings {s t : State} (h : t.surroundings = s.surroundings) (hs : PortOk s) : PortOk t := by
  have hport : t.port = s.port := congrArg Surroundings.port h
  have hcs : t.cs = s.cs := congrArg Surroundings.cs h
  have hrstn : t.rstn = s.rstn := congrArg Surroundings.rstn h
  rw [PortOk, hport, hcs, hrstn]
  exact hs

/-- With a transaction in progress CS is low and RSTN high (R158, R178). -/
theorem pins_of_transaction {s : State} (hs : PortOk s) {x : Transaction} (hx : x ∈ s.port.transaction) :
    ¬ (s.cs = true ∨ s.rstn = false) := by
  obtain ⟨hidle, -⟩ := hs
  rw [← hidle, port_of_mem_transaction hx]
  exact nofun

/-- What is asked of the transaction in progress. -/
def Transaction.Sound (t : Transaction) : Prop :=
  t.edges < 8 ∧ (t.reply = none → decodeFrame t.received = .incomplete ∧ t.positions = t.received.length) ∧
    (t.reply.isSome = true → t.received.length ≤ t.positions)

/-- A port with another transaction in progress than before. -/
theorem portOk_withPort {s : State} (hs : PortOk s) {x y : Transaction} (hx : x ∈ s.port.transaction) (hy : y.Sound) :
    PortOk (s.withPort (.active y)) := by
  refine ⟨⟨nofun, fun hpins => absurd hpins (pins_of_transaction (s := s) hs hx)⟩, ?_⟩
  rintro z ⟨⟩
  exact hy

theorem portOk_idle {s : State} (h : s.cs = true ∨ s.rstn = false) : PortOk (s.withPort .idle) :=
  ⟨⟨fun _ => h, fun _ => rfl⟩, nofun⟩

/-! ### The edges of a transaction -/

theorem sound_shifts {x y : Transaction} (h : x.Shifts y) (hx : x.Sound) : y.Sound := by
  obtain ⟨-, hawaits, hreplied⟩ := hx
  cases h with
  | bit hreply hedges => exact ⟨Nat.succ_lt_succ hedges, hawaits, hreplied⟩
  | operand hreply hframe =>
    obtain ⟨-, hpositions⟩ := hawaits hreply
    refine ⟨Nat.zero_lt_succ 7, fun _ => ⟨hframe, ?_⟩, nofun⟩
    rw [hpositions, List.length_append]
    rfl
  | replyBit _ hedges => exact ⟨Nat.succ_lt_succ hedges, hawaits, hreplied⟩
  | replyByte hreply =>
    exact ⟨Nat.zero_lt_succ 7, fun hnone => absurd hnone hreply, fun hsome => (hreplied hsome).trans (Nat.le_succ _)⟩

theorem inFlightOk_shifts {s : State} (hs : InFlightOk s) {x y : Transaction} (hx : x ∈ s.port.transaction) (h : x.Shifts y) :
    InFlightOk (s.withPort (.active y)) := by
  have hnone (hreply : x.reply = none) : InFlightOk (s.withPort (.active y)) := by
    have hzero : s.marks = 0 := marks_eq_zero hs fun t ht _ _ => transaction_unique ht hx ▸ hreply
    exact inFlightOk_of_zero (s := s.withPort (.active y)) hzero
  have hsame (hreceived : y.received = x.received) (hreply : y.reply = x.reply) : InFlightOk (s.withPort (.active y)) := by
    obtain ⟨hroom, hread⟩ := (inFlightOk_iff s).mp hs
    refine (inFlightOk_iff _).mpr ⟨hroom, fun hpos => ⟨y, rfl, ?_⟩⟩
    obtain ⟨t, ht, hof⟩ := hread hpos
    rw [hreceived, hreply, ← transaction_unique ht hx]
    exact hof
  cases h with
  | bit hreply | operand hreply => exact hnone hreply
  | replyBit | replyByte => exact hsame rfl rfl

/-! ### The taking -/

/-- A taking leaves the pins, and its answer in the port. -/
theorem portOk_takeCommand {s : State} (hs : PortOk s) {x : Transaction} (hx : x ∈ s.port.transaction) {i : Instr}
    {bytes : List Byte} (hb : hostBytes i = some bytes) : PortOk (takeCommand i s) := by
  have hpins := pins_of_transaction hs hx
  have hsurroundings := surroundings_taken (innerEffect_commandEffect i) bytes s
  rw [takeCommand_eq hb]
  have hcs : (taken bytes (commandEffect i) s).cs = s.cs := congrArg Surroundings.cs hsurroundings
  have hrstn : (taken bytes (commandEffect i) s).rstn = s.rstn := congrArg Surroundings.rstn hsurroundings
  have hport : (taken bytes (commandEffect i) s).port = replied bytes _ := congrArg Surroundings.port hsurroundings
  rw [PortOk, hcs, hrstn, hport]
  refine ⟨⟨nofun, fun h => absurd h hpins⟩, ?_⟩
  rintro z ⟨⟩
  exact ⟨Nat.zero_lt_succ 7, nofun, fun _ => le_refl _⟩

/-- READ-CHANGES alone marks entries, and it is then the command of the transaction (R170, R172). -/
theorem inFlightOk_takeCommand {s : State} (hs : InFlightOk s) {x : Transaction} (hx : x ∈ s.port.transaction)
    (hreply : x.reply = none) {i : Instr} {bytes : List Byte} (hw : i.WellFormed) (hb : hostBytes i = some bytes) :
    InFlightOk (takeCommand i s) := by
  have hzero : s.marks = 0 := marks_eq_zero hs fun t ht _ _ => transaction_unique ht hx ▸ hreply
  have htaken : (takeCommand i s).marks = (commandEffect i s).state.marks := by
    rw [takeCommand_eq hb]
    rfl
  rcases marks_performed (commandEffect_performed hw s) with hle | ⟨⟨m, rfl⟩, hle⟩
  · refine inFlightOk_of_zero (Nat.le_zero.mp ?_)
    rw [htaken, ← hzero]
    exact hle
  · cases hb
    refine (inFlightOk_iff _).mpr ⟨?_, fun _ => ⟨_, rfl, rfl, rfl, rfl⟩⟩
    rw [htaken]
    rwa [hzero] at hle

/-! ### The end of a transaction -/

/-- After the end of a transaction no entry is in flight (R170, R174). -/
theorem marks_endTransaction {s u : State} (hs : InFlightOk s) {x : Transaction} (hx : x ∈ s.port.transaction)
    (hu : u.changes = s.changes) : (endTransaction x u).marks = 0 := by
  have hzero (h : x.received.length = 2 → x.received.head? = some 0x02 → x.reply = none) : u.marks = 0 := by
    rw [State.marks, hu]
    exact marks_eq_zero hs fun t ht => by rw [transaction_unique ht hx]; exact h
  unfold endTransaction
  split
  · next hreply => exact hzero fun _ _ => hreply
  · split
    · next hreceived => exact hzero fun hlength => by rw [hreceived] at hlength; cases hlength
    · exact inFlightCount_settleEntries ..
    · rfl
    · next _ hother _ =>
      refine hzero fun hlength hhead => ?_
      obtain ⟨a, m, hreceived⟩ := List.length_eq_two.mp hlength
      rw [hreceived] at hhead
      cases hhead
      exact absurd hreceived (hother m)

theorem cs_endTransaction {u : State} (h : u.cs = true) {x : Transaction} : (endTransaction x u).cs = true := by
  unfold endTransaction
  split
  · exact h
  · split
    · exact h
    · exact h
    · rfl
    · exact h

/-! ### Every command -/

theorem portOk_leads {s t : State} (h : Leads s t) (hs : PortOk s) : PortOk t := by
  cases h with
  | still => exact hs
  | csFall =>
    cases hrstn : s.rstn with
    | false => exact portOk_idle (s := s.withPins false false) (.inr rfl)
    | true =>
      refine ⟨⟨nofun, nofun⟩, ?_⟩
      rintro z ⟨⟩
      exact ⟨by decide, fun _ => ⟨rfl, rfl⟩, nofun⟩
  | csRise => exact portOk_idle (.inl rfl)
  | ended =>
    refine portOk_of_surroundings (inner_restHorns.surroundings _) (portOk_idle (.inl ?_))
    exact cs_endTransaction rfl
  | shifted hx hy => exact portOk_withPort hs hx (sound_shifts hy (hs.2 _ hx))
  | taken hx _ _ hb => exact portOk_takeCommand hs hx hb
  | pinReset => exact ⟨⟨fun _ => .inr rfl, fun _ => rfl⟩, nofun⟩
  | released =>
    cases hcs : s.cs with
    | true => exact ⟨⟨fun _ => .inl rfl, fun _ => rfl⟩, nofun⟩
    | false => exact ⟨⟨nofun, nofun⟩, nofun⟩
  | periods lines keys n => exact portOk_of_surroundings ((inner_refclkPeriods lines keys n).surroundings s) hs
  | event hi => exact portOk_of_surroundings ((inner_restHorns.comp (inner_rowEvent hi)).surroundings s) hs

theorem inFlightOk_leads {s t : State} (h : Leads s t) (hport : PortOk s) (hs : InFlightOk s) : InFlightOk t := by
  cases h with
  | still => exact hs
  | csFall hcs =>
    obtain ⟨hidle, -⟩ := hport
    have hzero : s.marks = 0 := marks_eq_zero hs (by rw [hidle.mpr (.inl hcs)]; exact nofun)
    exact inFlightOk_of_zero (s := (s.withPins s.rstn false).withPort _) hzero
  | csRise hclosed =>
    obtain ⟨hidle, -⟩ := hport
    have hnone : s.port.transaction = none := by
      rcases hclosed with hrstn | hnone
      · rw [hidle.mpr (.inr hrstn)]
        rfl
      · exact hnone
    have hzero : s.marks = 0 := marks_eq_zero hs (by rw [hnone]; exact nofun)
    exact inFlightOk_of_zero (s := (s.withPins s.rstn true).withPort .idle) hzero
  | ended hx => exact inFlightOk_of_zero (marks_endTransaction (u := s.withPins s.rstn true) hs hx rfl)
  | shifted hx hy => exact inFlightOk_shifts hs hx hy
  | taken hx hreply hw hb => exact inFlightOk_takeCommand hs hx hreply hw hb
  | pinReset | released => exact inFlightOk_of_zero rfl
  | periods lines keys n =>
    exact inFlightOk_of_le ((inner_refclkPeriods lines keys n).port s) (marks_refclkPeriods lines keys n s) hs
  | event hi =>
    exact inFlightOk_of_le ((inner_restHorns.comp (inner_rowEvent hi)).port s)
      ((marks_occurs .rest).trans (marks_happens (happens_rowEvent hi s))) hs

end Sys2Proof.Machine
end

section
/-! The statement about the port. -/

namespace Sys2Proof.Proofs
open Sys2Proof.Machine

/-- Settles O11. -/
theorem stepKeepsPort : Obligations.StepKeepsPort := by
  rintro s t ⟨hport, hinFlight⟩ h
  rcases step_cases h with rfl | ⟨queue, hleads⟩
  · exact ⟨hport, hinFlight⟩
  · exact ⟨portOk_leads hleads hport, inFlightOk_leads hleads hport hinFlight⟩

end Sys2Proof.Proofs
end
